-- ==== Sys2Proof/Word.lean ====
section
/-! DEFINITION. The words that cross the boundary of FixPointCS CORE (10_state.md R21, 30_encoding.md R60). -/

namespace Sys2Proof

/-- A 64-bit operand or result word: `A`, `B`, `C`, `R` (R21). -/
abbrev Word := BitVec 64

/-- The 8-bit opcode field `op` (R60). -/
abbrev Opcode := BitVec 8

/-- The 200-bit command word `CMD` that R60 uses to present a command to a decoder. -/
abbrev CmdWord := BitVec 200

end Sys2Proof
end

