-- ==== Sys2Proof/Config.lean ====
section
/-! DEFINITION. What is fixed for the unit and is not state: the two kernels, the accuracy tiers, the floating-point
formats of the conversions, and the types of the constant ROM and of the named constants (00_scope.md R8, R9;
10_state.md R28). The values the spec gives stand in Machine/Rom.lean. -/

namespace Sys2Proof

/-- The two arithmetic kernels (00_scope.md R1): `q32` is Q32.32, `q16` is Q16.16. -/
inductive Kernel where
  | q32
  | q16
deriving DecidableEq, Repr

/-- The accuracy tier an opcode names (30_encoding.md R66): `default` is `t = 0`, `fast` is `t = 1`,
`fastest` is `t = 2`. It is part of the opcode, never a mode. -/
inductive Tier where
  | default
  | fast
  | fastest
deriving DecidableEq, Repr

/-- The two floating-point formats the conversion opcodes read and write (43_kernel_patterns.md R196). -/
inductive FloatFormat where
  | binary32
  | binary64
deriving DecidableEq, Repr

/-- A plain ROM table: the coefficients `C[0], C[1], …, C[d]` of a polynomial, Q2.30 (42_rom_tables.md R160). -/
abbrev Poly := List Int

/-- A lookup ROM table: one coefficient vector for each segment (42_rom_tables.md R160). -/
abbrev LutTable := List Poly

/-- The constant ROM: every polynomial coefficient, lookup table and engine constant (42_rom_tables.md R161 to R182). -/
structure Rom where
  rcpP4l8    : LutTable
  rcpP6      : Poly
  rcpP4      : Poly
  sqrtP3l8   : LutTable
  sqrtP4     : Poly
  sqrtP3     : Poly
  rsqrtP3l16 : LutTable
  rsqrtP5    : Poly
  rsqrtP3    : Poly
  log2P5l8   : LutTable
  log2P3l8   : LutTable
  log2P5     : Poly
  exp2P5     : Poly
  exp2P4     : Poly
  exp2P3     : Poly
  usinP4     : Poly
  usinP3     : Poly
  usinP2     : Poly
  atanP5l8   : LutTable
  atanP3l8   : LutTable
  atanP4     : Poly
  sqrt2      : Int
  rsqrt2     : Int
  atanOne    : Int
  k2pi       : Int
deriving DecidableEq, Repr

/-- The named constants of one kernel, `CONST_K` (43_kernel_patterns.md R192). `pi2` and `e` are read by no rule. -/
structure KConst where
  pi     : Int
  piHalf : Int
  pi2    : Int
  e      : Int
  ln2    : Int
  rcpLn2 : Int
deriving DecidableEq, Repr

/-- The parameters of `Exec` (00_scope.md R9): the ROM and the named constants of the two kernels. -/
structure Params where
  rom      : Rom
  constQ32 : KConst
  constQ16 : KConst
deriving DecidableEq, Repr

end Sys2Proof
end

