-- ==== Sys2Proof/Syntax.lean ====
section
/-! DEFINITION. The command as the port delivers it, and the instructions: one constructor for each of the 165 rows of
spec/opcode_table.json (30_encoding.md R65). Every operand is a whole 64-bit operand word (R63: there are no
immediates); an instruction carries exactly the words its format reads (R61), and which bits of a word an
operation sees is decided by the operand kinds of Machine/Operands.lean. -/

namespace Sys2Proof

/-- A command `(op, A, B, C)` on the command port (10_state.md R21). -/
structure Command where
  op : Opcode
  a  : Word
  b  : Word
  c  : Word
deriving DecidableEq, Repr

/-- The instructions: one constructor for each assigned opcode, with the operand words its format reads, in the order
`A`, `B`, `C` (30_encoding.md R61, R65). The mnemonic is the constructor's name with the dot written as a capital. -/
inductive Instr where
  -- Q32.32: conversions
  | fromintQ32 (a : Word)
  | fromfloatQ32 (a : Word)
  | fromdoubleQ32 (a : Word)
  | todoubleQ32 (a : Word)
  | tofloatQ32 (a : Word)
  | floortointQ32 (a : Word)
  | ceiltointQ32 (a : Word)
  | roundtointQ32 (a : Word)
  -- Q32.32: arithmetic
  | addQ32 (a b : Word)
  | subQ32 (a b : Word)
  | mulQ32 (a b : Word)
  | divQ32 (a b : Word)
  | divfastQ32 (a b : Word)
  | divfastestQ32 (a b : Word)
  | divpreciseQ32 (a b : Word)
  -- Q32.32: rounding and utility
  | ceilQ32 (a : Word)
  | floorQ32 (a : Word)
  | roundQ32 (a : Word)
  | fractQ32 (a : Word)
  | modQ32 (a b : Word)
  | minQ32 (a b : Word)
  | maxQ32 (a b : Word)
  | clampQ32 (a b c : Word)
  | lerpQ32 (a b c : Word)
  -- Q32.32: reciprocal, square root, exponential, logarithm, power
  | rcpQ32 (a : Word)
  | rcpfastQ32 (a : Word)
  | rcpfastestQ32 (a : Word)
  | sqrtQ32 (a : Word)
  | sqrtfastQ32 (a : Word)
  | sqrtfastestQ32 (a : Word)
  | rsqrtQ32 (a : Word)
  | rsqrtfastQ32 (a : Word)
  | rsqrtfastestQ32 (a : Word)
  | expQ32 (a : Word)
  | expfastQ32 (a : Word)
  | expfastestQ32 (a : Word)
  | exp2Q32 (a : Word)
  | exp2fastQ32 (a : Word)
  | exp2fastestQ32 (a : Word)
  | logQ32 (a : Word)
  | logfastQ32 (a : Word)
  | logfastestQ32 (a : Word)
  | log2Q32 (a : Word)
  | log2fastQ32 (a : Word)
  | log2fastestQ32 (a : Word)
  | powQ32 (a b : Word)
  | powfastQ32 (a b : Word)
  | powfastestQ32 (a b : Word)
  -- Q32.32: trigonometric
  | sinQ32 (a : Word)
  | sinfastQ32 (a : Word)
  | sinfastestQ32 (a : Word)
  | cosQ32 (a : Word)
  | cosfastQ32 (a : Word)
  | cosfastestQ32 (a : Word)
  | tanQ32 (a : Word)
  | tanfastQ32 (a : Word)
  | tanfastestQ32 (a : Word)
  | asinQ32 (a : Word)
  | asinfastQ32 (a : Word)
  | asinfastestQ32 (a : Word)
  | acosQ32 (a : Word)
  | acosfastQ32 (a : Word)
  | acosfastestQ32 (a : Word)
  | atanQ32 (a : Word)
  | atanfastQ32 (a : Word)
  | atanfastestQ32 (a : Word)
  | atan2Q32 (a b : Word)
  | atan2fastQ32 (a b : Word)
  | atan2fastestQ32 (a b : Word)
  -- shared: bit-normalization primitives
  | clzW32 (a : Word)
  | clzW64 (a : Word)
  | shrW32 (a b : Word)
  | shrW64 (a b : Word)
  | lshrW64 (a b : Word)
  -- shared: quantized multiply and evaluators
  | qmul30 (a b : Word)
  -- Q16.16: conversions
  | fromintQ16 (a : Word)
  | fromfloatQ16 (a : Word)
  | fromdoubleQ16 (a : Word)
  | todoubleQ16 (a : Word)
  | tofloatQ16 (a : Word)
  | floortointQ16 (a : Word)
  | ceiltointQ16 (a : Word)
  | roundtointQ16 (a : Word)
  -- Q16.16: arithmetic
  | addQ16 (a b : Word)
  | subQ16 (a b : Word)
  | mulQ16 (a b : Word)
  | divQ16 (a b : Word)
  | divfastQ16 (a b : Word)
  | divfastestQ16 (a b : Word)
  | divpreciseQ16 (a b : Word)
  -- Q16.16: rounding and utility
  | ceilQ16 (a : Word)
  | floorQ16 (a : Word)
  | roundQ16 (a : Word)
  | fractQ16 (a : Word)
  | modQ16 (a b : Word)
  | minQ16 (a b : Word)
  | maxQ16 (a b : Word)
  | clampQ16 (a b c : Word)
  | lerpQ16 (a b c : Word)
  -- Q16.16: reciprocal, square root, exponential, logarithm, power
  | rcpQ16 (a : Word)
  | rcpfastQ16 (a : Word)
  | rcpfastestQ16 (a : Word)
  | sqrtQ16 (a : Word)
  | sqrtfastQ16 (a : Word)
  | sqrtfastestQ16 (a : Word)
  | rsqrtQ16 (a : Word)
  | rsqrtfastQ16 (a : Word)
  | rsqrtfastestQ16 (a : Word)
  | expQ16 (a : Word)
  | expfastQ16 (a : Word)
  | expfastestQ16 (a : Word)
  | exp2Q16 (a : Word)
  | exp2fastQ16 (a : Word)
  | exp2fastestQ16 (a : Word)
  | logQ16 (a : Word)
  | logfastQ16 (a : Word)
  | logfastestQ16 (a : Word)
  | log2Q16 (a : Word)
  | log2fastQ16 (a : Word)
  | log2fastestQ16 (a : Word)
  | powQ16 (a b : Word)
  | powfastQ16 (a b : Word)
  | powfastestQ16 (a b : Word)
  -- Q16.16: trigonometric
  | sinQ16 (a : Word)
  | sinfastQ16 (a : Word)
  | sinfastestQ16 (a : Word)
  | cosQ16 (a : Word)
  | cosfastQ16 (a : Word)
  | cosfastestQ16 (a : Word)
  | tanQ16 (a : Word)
  | tanfastQ16 (a : Word)
  | tanfastestQ16 (a : Word)
  | asinQ16 (a : Word)
  | asinfastQ16 (a : Word)
  | asinfastestQ16 (a : Word)
  | acosQ16 (a : Word)
  | acosfastQ16 (a : Word)
  | acosfastestQ16 (a : Word)
  | atanQ16 (a : Word)
  | atanfastQ16 (a : Word)
  | atanfastestQ16 (a : Word)
  | atan2Q16 (a b : Word)
  | atan2fastQ16 (a b : Word)
  | atan2fastestQ16 (a b : Word)
  -- shared: quantized multiply and evaluators
  | rcpP4l8 (a : Word)
  | rcpP6 (a : Word)
  | rcpP4 (a : Word)
  | sqrtP3l8 (a : Word)
  | sqrtP4 (a : Word)
  | sqrtP3 (a : Word)
  | rsqrtP3l16 (a : Word)
  | rsqrtP5 (a : Word)
  | rsqrtP3 (a : Word)
  | log2P5l8 (a : Word)
  | log2P3l8 (a : Word)
  | log2P5 (a : Word)
  | exp2P5 (a : Word)
  | exp2P4 (a : Word)
  | exp2P3 (a : Word)
  | usinP4 (a : Word)
  | usinP3 (a : Word)
  | usinP2 (a : Word)
  | atanP5l8 (a : Word)
  | atanP3l8 (a : Word)
  | atanP4 (a : Word)
deriving DecidableEq, Repr

end Sys2Proof
end

