-- ==== Sys2Proof/WellFormed.lean ====
section
/-! DEFINITION. The checks on syntax and configuration. No instruction is ill-formed: every operand word is legal for
every opcode (30_encoding.md R68, 60_exceptions.md R460), so `Instr` needs no check of its own. What can be ill-formed is
a command (its opcode may be reserved, R67), its host notation (R70 fills unread words with zero) and a ROM or a set of
constants that does not have the shape and the width the spec gives (42_rom_tables.md R160, 43_kernel_patterns.md R192). -/

namespace Sys2Proof

/-- The three formats: how many operand words an operation reads (30_encoding.md R61). -/
inductive Format where
  | f1
  | f2
  | f3
deriving DecidableEq, Repr

/-- The opcodes of format F1 (30_encoding.md R65). -/
def opcodesF1 : List Nat :=
  [0x00, 0x01, 0x02, 0x03, 0x04, 0x05, 0x06, 0x07, 0x10, 0x11, 0x12, 0x13,
   0x20, 0x21, 0x22, 0x24, 0x25, 0x26, 0x28, 0x29, 0x2A, 0x30, 0x31, 0x32,
   0x34, 0x35, 0x36, 0x38, 0x39, 0x3A, 0x3C, 0x3D, 0x3E, 0x44, 0x45, 0x46,
   0x48, 0x49, 0x4A, 0x4C, 0x4D, 0x4E, 0x50, 0x51, 0x52, 0x54, 0x55, 0x56,
   0x58, 0x59, 0x5A, 0x60, 0x61, 0x80, 0x81, 0x82, 0x83, 0x84, 0x85, 0x86,
   0x87, 0x90, 0x91, 0x92, 0x93, 0xA0, 0xA1, 0xA2, 0xA4, 0xA5, 0xA6, 0xA8,
   0xA9, 0xAA, 0xB0, 0xB1, 0xB2, 0xB4, 0xB5, 0xB6, 0xB8, 0xB9, 0xBA, 0xBC,
   0xBD, 0xBE, 0xC4, 0xC5, 0xC6, 0xC8, 0xC9, 0xCA, 0xCC, 0xCD, 0xCE, 0xD0,
   0xD1, 0xD2, 0xD4, 0xD5, 0xD6, 0xD8, 0xD9, 0xDA, 0xE0, 0xE1, 0xE2, 0xE4,
   0xE5, 0xE6, 0xE8, 0xE9, 0xEA, 0xEC, 0xED, 0xEE, 0xF0, 0xF1, 0xF2, 0xF4,
   0xF5, 0xF6, 0xF8, 0xF9, 0xFA]

/-- The opcodes of format F2 (30_encoding.md R65). -/
def opcodesF2 : List Nat :=
  [0x08, 0x09, 0x0A, 0x0C, 0x0D, 0x0E, 0x0F, 0x14, 0x15, 0x16, 0x40, 0x41,
   0x42, 0x5C, 0x5D, 0x5E, 0x62, 0x63, 0x64, 0x65, 0x88, 0x89, 0x8A, 0x8C,
   0x8D, 0x8E, 0x8F, 0x94, 0x95, 0x96, 0xC0, 0xC1, 0xC2, 0xDC, 0xDD, 0xDE]

/-- The opcodes of format F3: `clamp` and `lerp` of the two kernels (30_encoding.md R61, R65). -/
def opcodesF3 : List Nat :=
  [0x17, 0x18, 0x97, 0x98]

/-- The opcode stands in the list. -/
def Opcode.listed (op : Opcode) (l : List Nat) : Bool := l.any (Nat.beq op.toNat)

/-- The format of an opcode; none where the opcode is reserved (30_encoding.md R61, R67). -/
def opcodeFormat (op : Opcode) : Option Format :=
  if Opcode.listed op opcodesF1 then some .f1
  else if Opcode.listed op opcodesF2 then some .f2
  else if Opcode.listed op opcodesF3 then some .f3
  else none

/-- The opcode of the command is assigned (30_encoding.md R65, R67). -/
def Command.assigned (cmd : Command) : Bool := (opcodeFormat cmd.op).isSome

/-- The operand words the command's format does not read are zero, as the host notation leaves them
(30_encoding.md R70). A command need not be padded to be legal (R23). -/
def Command.padded (cmd : Command) : Bool :=
  match opcodeFormat cmd.op with
  | some .f1 => cmd.b == 0 && cmd.c == 0
  | some .f2 => cmd.c == 0
  | some .f3 => true
  | none     => cmd.a == 0 && cmd.b == 0 && cmd.c == 0

/-- A value is a signed two's-complement word of `n` bits. -/
def fitsSigned (n : Nat) (v : Int) : Bool := decide (-(2 ^ (n - 1)) ≤ v) && decide (v < 2 ^ (n - 1))

/-- A plain table of degree `d`: `d + 1` entries, each a 32-bit signed word (42_rom_tables.md R160). -/
def Poly.wf (d : Nat) (p : Poly) : Bool := p.length == d + 1 && p.all (fitsSigned 32)

/-- A lookup table of `2 ^ bits` rows, each a plain table of degree `d` (42_rom_tables.md R160). -/
def LutTable.wf (bits d : Nat) (t : LutTable) : Bool := t.length == 2 ^ bits && t.all (Poly.wf d)

/-- The ROM has the tables, the degrees and the numbers of segments of 42_rom_tables.md R161 to R182. -/
def Rom.wf (rom : Rom) : Bool :=
  LutTable.wf 3 4 rom.rcpP4l8 && Poly.wf 6 rom.rcpP6 && Poly.wf 4 rom.rcpP4 &&
  LutTable.wf 3 3 rom.sqrtP3l8 && Poly.wf 4 rom.sqrtP4 && Poly.wf 3 rom.sqrtP3 &&
  LutTable.wf 4 3 rom.rsqrtP3l16 && Poly.wf 5 rom.rsqrtP5 && Poly.wf 3 rom.rsqrtP3 &&
  LutTable.wf 3 5 rom.log2P5l8 && LutTable.wf 3 3 rom.log2P3l8 && Poly.wf 5 rom.log2P5 &&
  Poly.wf 5 rom.exp2P5 && Poly.wf 4 rom.exp2P4 && Poly.wf 3 rom.exp2P3 &&
  Poly.wf 4 rom.usinP4 && Poly.wf 3 rom.usinP3 && Poly.wf 2 rom.usinP2 &&
  LutTable.wf 3 5 rom.atanP5l8 && LutTable.wf 3 3 rom.atanP3l8 && Poly.wf 4 rom.atanP4 &&
  fitsSigned 32 rom.sqrt2 && fitsSigned 32 rom.rsqrt2 && fitsSigned 32 rom.atanOne && fitsSigned 32 rom.k2pi

/-- The named constants of a kernel are raw values of a `w`-bit word (43_kernel_patterns.md R192). -/
def KConst.wf (w : Nat) (k : KConst) : Bool :=
  fitsSigned w k.pi && fitsSigned w k.piHalf && fitsSigned w k.pi2 && fitsSigned w k.e &&
  fitsSigned w k.ln2 && fitsSigned w k.rcpLn2

/-- The parameters of `Exec` have the shapes and widths the spec gives (00_scope.md R8, R9). -/
def Params.wf (P : Params) : Bool := P.rom.wf && P.constQ32.wf 64 && P.constQ16.wf 32

end Sys2Proof
end

