-- ==== Sys2Proof/Decode.lean ====
section
/-! DEFINITION. The decoder, total on every command, and the encoder (30_encoding.md R60 to R69). A decoder needs only `op`
(R69); a reserved opcode is rejected by name (R67), and what the unit answers to it is in Machine/Respond.lean. -/

namespace Sys2Proof

/-- Why a command does not decode. -/
inductive DecodeError where
  /-- The opcode is one of the 91 reserved values (30_encoding.md R67). The unit answers such a command with 0. -/
  | reservedOpcode (op : Opcode)
deriving DecidableEq, Repr

/-- The instruction a command asks for (30_encoding.md R65). Operand words its format does not read are dropped (R23). -/
def decode (cmd : Command) : Except DecodeError Instr :=
  match cmd.op.toNat with
  | 0x00 => .ok (.fromintQ32 cmd.a)
  | 0x01 => .ok (.fromfloatQ32 cmd.a)
  | 0x02 => .ok (.fromdoubleQ32 cmd.a)
  | 0x03 => .ok (.todoubleQ32 cmd.a)
  | 0x04 => .ok (.tofloatQ32 cmd.a)
  | 0x05 => .ok (.floortointQ32 cmd.a)
  | 0x06 => .ok (.ceiltointQ32 cmd.a)
  | 0x07 => .ok (.roundtointQ32 cmd.a)
  | 0x08 => .ok (.addQ32 cmd.a cmd.b)
  | 0x09 => .ok (.subQ32 cmd.a cmd.b)
  | 0x0A => .ok (.mulQ32 cmd.a cmd.b)
  | 0x0C => .ok (.divQ32 cmd.a cmd.b)
  | 0x0D => .ok (.divfastQ32 cmd.a cmd.b)
  | 0x0E => .ok (.divfastestQ32 cmd.a cmd.b)
  | 0x0F => .ok (.divpreciseQ32 cmd.a cmd.b)
  | 0x10 => .ok (.ceilQ32 cmd.a)
  | 0x11 => .ok (.floorQ32 cmd.a)
  | 0x12 => .ok (.roundQ32 cmd.a)
  | 0x13 => .ok (.fractQ32 cmd.a)
  | 0x14 => .ok (.modQ32 cmd.a cmd.b)
  | 0x15 => .ok (.minQ32 cmd.a cmd.b)
  | 0x16 => .ok (.maxQ32 cmd.a cmd.b)
  | 0x17 => .ok (.clampQ32 cmd.a cmd.b cmd.c)
  | 0x18 => .ok (.lerpQ32 cmd.a cmd.b cmd.c)
  | 0x20 => .ok (.rcpQ32 cmd.a)
  | 0x21 => .ok (.rcpfastQ32 cmd.a)
  | 0x22 => .ok (.rcpfastestQ32 cmd.a)
  | 0x24 => .ok (.sqrtQ32 cmd.a)
  | 0x25 => .ok (.sqrtfastQ32 cmd.a)
  | 0x26 => .ok (.sqrtfastestQ32 cmd.a)
  | 0x28 => .ok (.rsqrtQ32 cmd.a)
  | 0x29 => .ok (.rsqrtfastQ32 cmd.a)
  | 0x2A => .ok (.rsqrtfastestQ32 cmd.a)
  | 0x30 => .ok (.expQ32 cmd.a)
  | 0x31 => .ok (.expfastQ32 cmd.a)
  | 0x32 => .ok (.expfastestQ32 cmd.a)
  | 0x34 => .ok (.exp2Q32 cmd.a)
  | 0x35 => .ok (.exp2fastQ32 cmd.a)
  | 0x36 => .ok (.exp2fastestQ32 cmd.a)
  | 0x38 => .ok (.logQ32 cmd.a)
  | 0x39 => .ok (.logfastQ32 cmd.a)
  | 0x3A => .ok (.logfastestQ32 cmd.a)
  | 0x3C => .ok (.log2Q32 cmd.a)
  | 0x3D => .ok (.log2fastQ32 cmd.a)
  | 0x3E => .ok (.log2fastestQ32 cmd.a)
  | 0x40 => .ok (.powQ32 cmd.a cmd.b)
  | 0x41 => .ok (.powfastQ32 cmd.a cmd.b)
  | 0x42 => .ok (.powfastestQ32 cmd.a cmd.b)
  | 0x44 => .ok (.sinQ32 cmd.a)
  | 0x45 => .ok (.sinfastQ32 cmd.a)
  | 0x46 => .ok (.sinfastestQ32 cmd.a)
  | 0x48 => .ok (.cosQ32 cmd.a)
  | 0x49 => .ok (.cosfastQ32 cmd.a)
  | 0x4A => .ok (.cosfastestQ32 cmd.a)
  | 0x4C => .ok (.tanQ32 cmd.a)
  | 0x4D => .ok (.tanfastQ32 cmd.a)
  | 0x4E => .ok (.tanfastestQ32 cmd.a)
  | 0x50 => .ok (.asinQ32 cmd.a)
  | 0x51 => .ok (.asinfastQ32 cmd.a)
  | 0x52 => .ok (.asinfastestQ32 cmd.a)
  | 0x54 => .ok (.acosQ32 cmd.a)
  | 0x55 => .ok (.acosfastQ32 cmd.a)
  | 0x56 => .ok (.acosfastestQ32 cmd.a)
  | 0x58 => .ok (.atanQ32 cmd.a)
  | 0x59 => .ok (.atanfastQ32 cmd.a)
  | 0x5A => .ok (.atanfastestQ32 cmd.a)
  | 0x5C => .ok (.atan2Q32 cmd.a cmd.b)
  | 0x5D => .ok (.atan2fastQ32 cmd.a cmd.b)
  | 0x5E => .ok (.atan2fastestQ32 cmd.a cmd.b)
  | 0x60 => .ok (.clzW32 cmd.a)
  | 0x61 => .ok (.clzW64 cmd.a)
  | 0x62 => .ok (.shrW32 cmd.a cmd.b)
  | 0x63 => .ok (.shrW64 cmd.a cmd.b)
  | 0x64 => .ok (.lshrW64 cmd.a cmd.b)
  | 0x65 => .ok (.qmul30 cmd.a cmd.b)
  | 0x80 => .ok (.fromintQ16 cmd.a)
  | 0x81 => .ok (.fromfloatQ16 cmd.a)
  | 0x82 => .ok (.fromdoubleQ16 cmd.a)
  | 0x83 => .ok (.todoubleQ16 cmd.a)
  | 0x84 => .ok (.tofloatQ16 cmd.a)
  | 0x85 => .ok (.floortointQ16 cmd.a)
  | 0x86 => .ok (.ceiltointQ16 cmd.a)
  | 0x87 => .ok (.roundtointQ16 cmd.a)
  | 0x88 => .ok (.addQ16 cmd.a cmd.b)
  | 0x89 => .ok (.subQ16 cmd.a cmd.b)
  | 0x8A => .ok (.mulQ16 cmd.a cmd.b)
  | 0x8C => .ok (.divQ16 cmd.a cmd.b)
  | 0x8D => .ok (.divfastQ16 cmd.a cmd.b)
  | 0x8E => .ok (.divfastestQ16 cmd.a cmd.b)
  | 0x8F => .ok (.divpreciseQ16 cmd.a cmd.b)
  | 0x90 => .ok (.ceilQ16 cmd.a)
  | 0x91 => .ok (.floorQ16 cmd.a)
  | 0x92 => .ok (.roundQ16 cmd.a)
  | 0x93 => .ok (.fractQ16 cmd.a)
  | 0x94 => .ok (.modQ16 cmd.a cmd.b)
  | 0x95 => .ok (.minQ16 cmd.a cmd.b)
  | 0x96 => .ok (.maxQ16 cmd.a cmd.b)
  | 0x97 => .ok (.clampQ16 cmd.a cmd.b cmd.c)
  | 0x98 => .ok (.lerpQ16 cmd.a cmd.b cmd.c)
  | 0xA0 => .ok (.rcpQ16 cmd.a)
  | 0xA1 => .ok (.rcpfastQ16 cmd.a)
  | 0xA2 => .ok (.rcpfastestQ16 cmd.a)
  | 0xA4 => .ok (.sqrtQ16 cmd.a)
  | 0xA5 => .ok (.sqrtfastQ16 cmd.a)
  | 0xA6 => .ok (.sqrtfastestQ16 cmd.a)
  | 0xA8 => .ok (.rsqrtQ16 cmd.a)
  | 0xA9 => .ok (.rsqrtfastQ16 cmd.a)
  | 0xAA => .ok (.rsqrtfastestQ16 cmd.a)
  | 0xB0 => .ok (.expQ16 cmd.a)
  | 0xB1 => .ok (.expfastQ16 cmd.a)
  | 0xB2 => .ok (.expfastestQ16 cmd.a)
  | 0xB4 => .ok (.exp2Q16 cmd.a)
  | 0xB5 => .ok (.exp2fastQ16 cmd.a)
  | 0xB6 => .ok (.exp2fastestQ16 cmd.a)
  | 0xB8 => .ok (.logQ16 cmd.a)
  | 0xB9 => .ok (.logfastQ16 cmd.a)
  | 0xBA => .ok (.logfastestQ16 cmd.a)
  | 0xBC => .ok (.log2Q16 cmd.a)
  | 0xBD => .ok (.log2fastQ16 cmd.a)
  | 0xBE => .ok (.log2fastestQ16 cmd.a)
  | 0xC0 => .ok (.powQ16 cmd.a cmd.b)
  | 0xC1 => .ok (.powfastQ16 cmd.a cmd.b)
  | 0xC2 => .ok (.powfastestQ16 cmd.a cmd.b)
  | 0xC4 => .ok (.sinQ16 cmd.a)
  | 0xC5 => .ok (.sinfastQ16 cmd.a)
  | 0xC6 => .ok (.sinfastestQ16 cmd.a)
  | 0xC8 => .ok (.cosQ16 cmd.a)
  | 0xC9 => .ok (.cosfastQ16 cmd.a)
  | 0xCA => .ok (.cosfastestQ16 cmd.a)
  | 0xCC => .ok (.tanQ16 cmd.a)
  | 0xCD => .ok (.tanfastQ16 cmd.a)
  | 0xCE => .ok (.tanfastestQ16 cmd.a)
  | 0xD0 => .ok (.asinQ16 cmd.a)
  | 0xD1 => .ok (.asinfastQ16 cmd.a)
  | 0xD2 => .ok (.asinfastestQ16 cmd.a)
  | 0xD4 => .ok (.acosQ16 cmd.a)
  | 0xD5 => .ok (.acosfastQ16 cmd.a)
  | 0xD6 => .ok (.acosfastestQ16 cmd.a)
  | 0xD8 => .ok (.atanQ16 cmd.a)
  | 0xD9 => .ok (.atanfastQ16 cmd.a)
  | 0xDA => .ok (.atanfastestQ16 cmd.a)
  | 0xDC => .ok (.atan2Q16 cmd.a cmd.b)
  | 0xDD => .ok (.atan2fastQ16 cmd.a cmd.b)
  | 0xDE => .ok (.atan2fastestQ16 cmd.a cmd.b)
  | 0xE0 => .ok (.rcpP4l8 cmd.a)
  | 0xE1 => .ok (.rcpP6 cmd.a)
  | 0xE2 => .ok (.rcpP4 cmd.a)
  | 0xE4 => .ok (.sqrtP3l8 cmd.a)
  | 0xE5 => .ok (.sqrtP4 cmd.a)
  | 0xE6 => .ok (.sqrtP3 cmd.a)
  | 0xE8 => .ok (.rsqrtP3l16 cmd.a)
  | 0xE9 => .ok (.rsqrtP5 cmd.a)
  | 0xEA => .ok (.rsqrtP3 cmd.a)
  | 0xEC => .ok (.log2P5l8 cmd.a)
  | 0xED => .ok (.log2P3l8 cmd.a)
  | 0xEE => .ok (.log2P5 cmd.a)
  | 0xF0 => .ok (.exp2P5 cmd.a)
  | 0xF1 => .ok (.exp2P4 cmd.a)
  | 0xF2 => .ok (.exp2P3 cmd.a)
  | 0xF4 => .ok (.usinP4 cmd.a)
  | 0xF5 => .ok (.usinP3 cmd.a)
  | 0xF6 => .ok (.usinP2 cmd.a)
  | 0xF8 => .ok (.atanP5l8 cmd.a)
  | 0xF9 => .ok (.atanP3l8 cmd.a)
  | 0xFA => .ok (.atanP4 cmd.a)
  | _ => .error (.reservedOpcode cmd.op)

/-- The opcode of an instruction (30_encoding.md R65). -/
def Instr.opcode : Instr → Opcode
  | .fromintQ32 _ => 0x00
  | .fromfloatQ32 _ => 0x01
  | .fromdoubleQ32 _ => 0x02
  | .todoubleQ32 _ => 0x03
  | .tofloatQ32 _ => 0x04
  | .floortointQ32 _ => 0x05
  | .ceiltointQ32 _ => 0x06
  | .roundtointQ32 _ => 0x07
  | .addQ32 _ _ => 0x08
  | .subQ32 _ _ => 0x09
  | .mulQ32 _ _ => 0x0A
  | .divQ32 _ _ => 0x0C
  | .divfastQ32 _ _ => 0x0D
  | .divfastestQ32 _ _ => 0x0E
  | .divpreciseQ32 _ _ => 0x0F
  | .ceilQ32 _ => 0x10
  | .floorQ32 _ => 0x11
  | .roundQ32 _ => 0x12
  | .fractQ32 _ => 0x13
  | .modQ32 _ _ => 0x14
  | .minQ32 _ _ => 0x15
  | .maxQ32 _ _ => 0x16
  | .clampQ32 _ _ _ => 0x17
  | .lerpQ32 _ _ _ => 0x18
  | .rcpQ32 _ => 0x20
  | .rcpfastQ32 _ => 0x21
  | .rcpfastestQ32 _ => 0x22
  | .sqrtQ32 _ => 0x24
  | .sqrtfastQ32 _ => 0x25
  | .sqrtfastestQ32 _ => 0x26
  | .rsqrtQ32 _ => 0x28
  | .rsqrtfastQ32 _ => 0x29
  | .rsqrtfastestQ32 _ => 0x2A
  | .expQ32 _ => 0x30
  | .expfastQ32 _ => 0x31
  | .expfastestQ32 _ => 0x32
  | .exp2Q32 _ => 0x34
  | .exp2fastQ32 _ => 0x35
  | .exp2fastestQ32 _ => 0x36
  | .logQ32 _ => 0x38
  | .logfastQ32 _ => 0x39
  | .logfastestQ32 _ => 0x3A
  | .log2Q32 _ => 0x3C
  | .log2fastQ32 _ => 0x3D
  | .log2fastestQ32 _ => 0x3E
  | .powQ32 _ _ => 0x40
  | .powfastQ32 _ _ => 0x41
  | .powfastestQ32 _ _ => 0x42
  | .sinQ32 _ => 0x44
  | .sinfastQ32 _ => 0x45
  | .sinfastestQ32 _ => 0x46
  | .cosQ32 _ => 0x48
  | .cosfastQ32 _ => 0x49
  | .cosfastestQ32 _ => 0x4A
  | .tanQ32 _ => 0x4C
  | .tanfastQ32 _ => 0x4D
  | .tanfastestQ32 _ => 0x4E
  | .asinQ32 _ => 0x50
  | .asinfastQ32 _ => 0x51
  | .asinfastestQ32 _ => 0x52
  | .acosQ32 _ => 0x54
  | .acosfastQ32 _ => 0x55
  | .acosfastestQ32 _ => 0x56
  | .atanQ32 _ => 0x58
  | .atanfastQ32 _ => 0x59
  | .atanfastestQ32 _ => 0x5A
  | .atan2Q32 _ _ => 0x5C
  | .atan2fastQ32 _ _ => 0x5D
  | .atan2fastestQ32 _ _ => 0x5E
  | .clzW32 _ => 0x60
  | .clzW64 _ => 0x61
  | .shrW32 _ _ => 0x62
  | .shrW64 _ _ => 0x63
  | .lshrW64 _ _ => 0x64
  | .qmul30 _ _ => 0x65
  | .fromintQ16 _ => 0x80
  | .fromfloatQ16 _ => 0x81
  | .fromdoubleQ16 _ => 0x82
  | .todoubleQ16 _ => 0x83
  | .tofloatQ16 _ => 0x84
  | .floortointQ16 _ => 0x85
  | .ceiltointQ16 _ => 0x86
  | .roundtointQ16 _ => 0x87
  | .addQ16 _ _ => 0x88
  | .subQ16 _ _ => 0x89
  | .mulQ16 _ _ => 0x8A
  | .divQ16 _ _ => 0x8C
  | .divfastQ16 _ _ => 0x8D
  | .divfastestQ16 _ _ => 0x8E
  | .divpreciseQ16 _ _ => 0x8F
  | .ceilQ16 _ => 0x90
  | .floorQ16 _ => 0x91
  | .roundQ16 _ => 0x92
  | .fractQ16 _ => 0x93
  | .modQ16 _ _ => 0x94
  | .minQ16 _ _ => 0x95
  | .maxQ16 _ _ => 0x96
  | .clampQ16 _ _ _ => 0x97
  | .lerpQ16 _ _ _ => 0x98
  | .rcpQ16 _ => 0xA0
  | .rcpfastQ16 _ => 0xA1
  | .rcpfastestQ16 _ => 0xA2
  | .sqrtQ16 _ => 0xA4
  | .sqrtfastQ16 _ => 0xA5
  | .sqrtfastestQ16 _ => 0xA6
  | .rsqrtQ16 _ => 0xA8
  | .rsqrtfastQ16 _ => 0xA9
  | .rsqrtfastestQ16 _ => 0xAA
  | .expQ16 _ => 0xB0
  | .expfastQ16 _ => 0xB1
  | .expfastestQ16 _ => 0xB2
  | .exp2Q16 _ => 0xB4
  | .exp2fastQ16 _ => 0xB5
  | .exp2fastestQ16 _ => 0xB6
  | .logQ16 _ => 0xB8
  | .logfastQ16 _ => 0xB9
  | .logfastestQ16 _ => 0xBA
  | .log2Q16 _ => 0xBC
  | .log2fastQ16 _ => 0xBD
  | .log2fastestQ16 _ => 0xBE
  | .powQ16 _ _ => 0xC0
  | .powfastQ16 _ _ => 0xC1
  | .powfastestQ16 _ _ => 0xC2
  | .sinQ16 _ => 0xC4
  | .sinfastQ16 _ => 0xC5
  | .sinfastestQ16 _ => 0xC6
  | .cosQ16 _ => 0xC8
  | .cosfastQ16 _ => 0xC9
  | .cosfastestQ16 _ => 0xCA
  | .tanQ16 _ => 0xCC
  | .tanfastQ16 _ => 0xCD
  | .tanfastestQ16 _ => 0xCE
  | .asinQ16 _ => 0xD0
  | .asinfastQ16 _ => 0xD1
  | .asinfastestQ16 _ => 0xD2
  | .acosQ16 _ => 0xD4
  | .acosfastQ16 _ => 0xD5
  | .acosfastestQ16 _ => 0xD6
  | .atanQ16 _ => 0xD8
  | .atanfastQ16 _ => 0xD9
  | .atanfastestQ16 _ => 0xDA
  | .atan2Q16 _ _ => 0xDC
  | .atan2fastQ16 _ _ => 0xDD
  | .atan2fastestQ16 _ _ => 0xDE
  | .rcpP4l8 _ => 0xE0
  | .rcpP6 _ => 0xE1
  | .rcpP4 _ => 0xE2
  | .sqrtP3l8 _ => 0xE4
  | .sqrtP4 _ => 0xE5
  | .sqrtP3 _ => 0xE6
  | .rsqrtP3l16 _ => 0xE8
  | .rsqrtP5 _ => 0xE9
  | .rsqrtP3 _ => 0xEA
  | .log2P5l8 _ => 0xEC
  | .log2P3l8 _ => 0xED
  | .log2P5 _ => 0xEE
  | .exp2P5 _ => 0xF0
  | .exp2P4 _ => 0xF1
  | .exp2P3 _ => 0xF2
  | .usinP4 _ => 0xF4
  | .usinP3 _ => 0xF5
  | .usinP2 _ => 0xF6
  | .atanP5l8 _ => 0xF8
  | .atanP3l8 _ => 0xF9
  | .atanP4 _ => 0xFA

/-- The operand words of an instruction in the positions `A`, `B`, `C`, the words its format does not read zero
(30_encoding.md R61, R70). -/
def Instr.operands : Instr → Word × Word × Word
  | .fromintQ32 a => (a, 0, 0)
  | .fromfloatQ32 a => (a, 0, 0)
  | .fromdoubleQ32 a => (a, 0, 0)
  | .todoubleQ32 a => (a, 0, 0)
  | .tofloatQ32 a => (a, 0, 0)
  | .floortointQ32 a => (a, 0, 0)
  | .ceiltointQ32 a => (a, 0, 0)
  | .roundtointQ32 a => (a, 0, 0)
  | .addQ32 a b => (a, b, 0)
  | .subQ32 a b => (a, b, 0)
  | .mulQ32 a b => (a, b, 0)
  | .divQ32 a b => (a, b, 0)
  | .divfastQ32 a b => (a, b, 0)
  | .divfastestQ32 a b => (a, b, 0)
  | .divpreciseQ32 a b => (a, b, 0)
  | .ceilQ32 a => (a, 0, 0)
  | .floorQ32 a => (a, 0, 0)
  | .roundQ32 a => (a, 0, 0)
  | .fractQ32 a => (a, 0, 0)
  | .modQ32 a b => (a, b, 0)
  | .minQ32 a b => (a, b, 0)
  | .maxQ32 a b => (a, b, 0)
  | .clampQ32 a b c => (a, b, c)
  | .lerpQ32 a b c => (a, b, c)
  | .rcpQ32 a => (a, 0, 0)
  | .rcpfastQ32 a => (a, 0, 0)
  | .rcpfastestQ32 a => (a, 0, 0)
  | .sqrtQ32 a => (a, 0, 0)
  | .sqrtfastQ32 a => (a, 0, 0)
  | .sqrtfastestQ32 a => (a, 0, 0)
  | .rsqrtQ32 a => (a, 0, 0)
  | .rsqrtfastQ32 a => (a, 0, 0)
  | .rsqrtfastestQ32 a => (a, 0, 0)
  | .expQ32 a => (a, 0, 0)
  | .expfastQ32 a => (a, 0, 0)
  | .expfastestQ32 a => (a, 0, 0)
  | .exp2Q32 a => (a, 0, 0)
  | .exp2fastQ32 a => (a, 0, 0)
  | .exp2fastestQ32 a => (a, 0, 0)
  | .logQ32 a => (a, 0, 0)
  | .logfastQ32 a => (a, 0, 0)
  | .logfastestQ32 a => (a, 0, 0)
  | .log2Q32 a => (a, 0, 0)
  | .log2fastQ32 a => (a, 0, 0)
  | .log2fastestQ32 a => (a, 0, 0)
  | .powQ32 a b => (a, b, 0)
  | .powfastQ32 a b => (a, b, 0)
  | .powfastestQ32 a b => (a, b, 0)
  | .sinQ32 a => (a, 0, 0)
  | .sinfastQ32 a => (a, 0, 0)
  | .sinfastestQ32 a => (a, 0, 0)
  | .cosQ32 a => (a, 0, 0)
  | .cosfastQ32 a => (a, 0, 0)
  | .cosfastestQ32 a => (a, 0, 0)
  | .tanQ32 a => (a, 0, 0)
  | .tanfastQ32 a => (a, 0, 0)
  | .tanfastestQ32 a => (a, 0, 0)
  | .asinQ32 a => (a, 0, 0)
  | .asinfastQ32 a => (a, 0, 0)
  | .asinfastestQ32 a => (a, 0, 0)
  | .acosQ32 a => (a, 0, 0)
  | .acosfastQ32 a => (a, 0, 0)
  | .acosfastestQ32 a => (a, 0, 0)
  | .atanQ32 a => (a, 0, 0)
  | .atanfastQ32 a => (a, 0, 0)
  | .atanfastestQ32 a => (a, 0, 0)
  | .atan2Q32 a b => (a, b, 0)
  | .atan2fastQ32 a b => (a, b, 0)
  | .atan2fastestQ32 a b => (a, b, 0)
  | .clzW32 a => (a, 0, 0)
  | .clzW64 a => (a, 0, 0)
  | .shrW32 a b => (a, b, 0)
  | .shrW64 a b => (a, b, 0)
  | .lshrW64 a b => (a, b, 0)
  | .qmul30 a b => (a, b, 0)
  | .fromintQ16 a => (a, 0, 0)
  | .fromfloatQ16 a => (a, 0, 0)
  | .fromdoubleQ16 a => (a, 0, 0)
  | .todoubleQ16 a => (a, 0, 0)
  | .tofloatQ16 a => (a, 0, 0)
  | .floortointQ16 a => (a, 0, 0)
  | .ceiltointQ16 a => (a, 0, 0)
  | .roundtointQ16 a => (a, 0, 0)
  | .addQ16 a b => (a, b, 0)
  | .subQ16 a b => (a, b, 0)
  | .mulQ16 a b => (a, b, 0)
  | .divQ16 a b => (a, b, 0)
  | .divfastQ16 a b => (a, b, 0)
  | .divfastestQ16 a b => (a, b, 0)
  | .divpreciseQ16 a b => (a, b, 0)
  | .ceilQ16 a => (a, 0, 0)
  | .floorQ16 a => (a, 0, 0)
  | .roundQ16 a => (a, 0, 0)
  | .fractQ16 a => (a, 0, 0)
  | .modQ16 a b => (a, b, 0)
  | .minQ16 a b => (a, b, 0)
  | .maxQ16 a b => (a, b, 0)
  | .clampQ16 a b c => (a, b, c)
  | .lerpQ16 a b c => (a, b, c)
  | .rcpQ16 a => (a, 0, 0)
  | .rcpfastQ16 a => (a, 0, 0)
  | .rcpfastestQ16 a => (a, 0, 0)
  | .sqrtQ16 a => (a, 0, 0)
  | .sqrtfastQ16 a => (a, 0, 0)
  | .sqrtfastestQ16 a => (a, 0, 0)
  | .rsqrtQ16 a => (a, 0, 0)
  | .rsqrtfastQ16 a => (a, 0, 0)
  | .rsqrtfastestQ16 a => (a, 0, 0)
  | .expQ16 a => (a, 0, 0)
  | .expfastQ16 a => (a, 0, 0)
  | .expfastestQ16 a => (a, 0, 0)
  | .exp2Q16 a => (a, 0, 0)
  | .exp2fastQ16 a => (a, 0, 0)
  | .exp2fastestQ16 a => (a, 0, 0)
  | .logQ16 a => (a, 0, 0)
  | .logfastQ16 a => (a, 0, 0)
  | .logfastestQ16 a => (a, 0, 0)
  | .log2Q16 a => (a, 0, 0)
  | .log2fastQ16 a => (a, 0, 0)
  | .log2fastestQ16 a => (a, 0, 0)
  | .powQ16 a b => (a, b, 0)
  | .powfastQ16 a b => (a, b, 0)
  | .powfastestQ16 a b => (a, b, 0)
  | .sinQ16 a => (a, 0, 0)
  | .sinfastQ16 a => (a, 0, 0)
  | .sinfastestQ16 a => (a, 0, 0)
  | .cosQ16 a => (a, 0, 0)
  | .cosfastQ16 a => (a, 0, 0)
  | .cosfastestQ16 a => (a, 0, 0)
  | .tanQ16 a => (a, 0, 0)
  | .tanfastQ16 a => (a, 0, 0)
  | .tanfastestQ16 a => (a, 0, 0)
  | .asinQ16 a => (a, 0, 0)
  | .asinfastQ16 a => (a, 0, 0)
  | .asinfastestQ16 a => (a, 0, 0)
  | .acosQ16 a => (a, 0, 0)
  | .acosfastQ16 a => (a, 0, 0)
  | .acosfastestQ16 a => (a, 0, 0)
  | .atanQ16 a => (a, 0, 0)
  | .atanfastQ16 a => (a, 0, 0)
  | .atanfastestQ16 a => (a, 0, 0)
  | .atan2Q16 a b => (a, b, 0)
  | .atan2fastQ16 a b => (a, b, 0)
  | .atan2fastestQ16 a b => (a, b, 0)
  | .rcpP4l8 a => (a, 0, 0)
  | .rcpP6 a => (a, 0, 0)
  | .rcpP4 a => (a, 0, 0)
  | .sqrtP3l8 a => (a, 0, 0)
  | .sqrtP4 a => (a, 0, 0)
  | .sqrtP3 a => (a, 0, 0)
  | .rsqrtP3l16 a => (a, 0, 0)
  | .rsqrtP5 a => (a, 0, 0)
  | .rsqrtP3 a => (a, 0, 0)
  | .log2P5l8 a => (a, 0, 0)
  | .log2P3l8 a => (a, 0, 0)
  | .log2P5 a => (a, 0, 0)
  | .exp2P5 a => (a, 0, 0)
  | .exp2P4 a => (a, 0, 0)
  | .exp2P3 a => (a, 0, 0)
  | .usinP4 a => (a, 0, 0)
  | .usinP3 a => (a, 0, 0)
  | .usinP2 a => (a, 0, 0)
  | .atanP5l8 a => (a, 0, 0)
  | .atanP3l8 a => (a, 0, 0)
  | .atanP4 a => (a, 0, 0)

/-- The command of an instruction, as a line of the host notation issues it (30_encoding.md R65, R70). -/
def encode (i : Instr) : Command :=
  { op := i.opcode, a := i.operands.1, b := i.operands.2.1, c := i.operands.2.2 }

/-- The 200-bit presentation of a command: `op` in bits 199:192, `A` in 191:128, `B` in 127:64, `C` in 63:0
(30_encoding.md R60). -/
def Command.toCmdWord (cmd : Command) : CmdWord := cmd.op ++ cmd.a ++ cmd.b ++ cmd.c

/-- The command that a 200-bit word presents (30_encoding.md R60). -/
def Command.ofCmdWord (w : CmdWord) : Command :=
  { op := w.extractLsb' 192 8, a := w.extractLsb' 128 64, b := w.extractLsb' 64 64, c := w.extractLsb' 0 64 }

/-- Decoding of the 200-bit presentation. -/
def decodeCmdWord (w : CmdWord) : Except DecodeError Instr := decode (Command.ofCmdWord w)

/-- The 200-bit presentation of an instruction's command: its words, as R60 lays them out. -/
def encodeCmdWord (i : Instr) : CmdWord := (encode i).toCmdWord

/-- The command whose bits are `w`, numbered as spec/opcode_table.json numbers them: the opcode in bits 7:0 and, above it,
`A`, `B` and `C`, 64 bits each. Bits of `w` from `nbits` on are not part of the instruction and read as 0.
[DESIGN CHOICE: notes/assumptions/4.md; the table gives the operand words no bits, so they are zero in its words.] -/
def tableCommand (nbits w : Nat) : Command :=
  let v := w % 2 ^ nbits
  { op := BitVec.ofNat 8 v
    a  := BitVec.ofNat 64 (v / 2 ^ 8)
    b  := BitVec.ofNat 64 (v / 2 ^ 72)
    c  := BitVec.ofNat 64 (v / 2 ^ 136) }

/-- The instruction the decoder reads from a word of spec/opcode_table.json; none where it rejects the opcode. -/
def decodeTableWord (nbits w : Nat) : Option Instr :=
  match decode (tableCommand nbits w) with
  | .ok i    => some i
  | .error _ => none

end Sys2Proof
end

