-- ==== Sys2Proof/Machine/Arith.lean ====
section
/-! DEFINITION. The integer arithmetic every rule is written in: unbounded integers with explicit narrowing
(00_scope.md R10, R11), the bit-normalization primitives (40_bit_primitives.md R100 to R108) and the laws of
43_kernel_patterns.md R193. -/

namespace Sys2Proof.Machine

/-- `wrap_N(v)`: two's-complement wraparound to `n` bits, read as signed (00_scope.md R11). -/
def wrap (n : Nat) (v : Int) : Int := v.bmod (2 ^ n)

/-- `u_N(v)`: the low `n` bits of `v` read as unsigned (00_scope.md R11). -/
def unsigned (n : Nat) (v : Int) : Int := v % 2 ^ n

/-- `X[hi:lo]`: the field of the word `x` from bit `hi` down to bit `lo` (00_scope.md R10). -/
def bitField (x : Int) (hi lo : Nat) : Int := x / 2 ^ lo % 2 ^ (hi - lo + 1)

/-- `SHR(v, n)` on unbounded integers: `floor(v / 2^n)` for `n ≥ 0`, `v * 2^(-n)` for `n < 0` (00_scope.md R11). -/
def shr (v : Int) : Int → Int
  | .ofNat n   => v / 2 ^ n
  | .negSucc n => v * 2 ^ (n + 1)

/-- `clz_N(x)`: the number of leading zero bits of the `n`-bit unsigned `x`; `n` for `x = 0` (40_bit_primitives.md R100). -/
def clz (n x : Nat) : Nat := if x = 0 then n else n - 1 - x.log2

/-- `ShiftRight_N(x, amount)`: arithmetic right shift for `amount ≥ 0`, wrapping left shift for `amount < 0`, with the
values R103 gives beyond the width stated as they are given there (40_bit_primitives.md R103). -/
def shiftRight (n : Nat) (x amount : Int) : Int :=
  if (n : Int) ≤ amount then (if x < 0 then -1 else 0)
  else if amount ≤ -(n : Int) then 0
  else wrap n (shr x amount)

/-- `LogicalShiftRight(x, amount)` of a 64-bit word: zero-filling right shift, and left shift for a negative amount, with
the values R106 gives beyond the width stated as they are given there (40_bit_primitives.md R106). -/
def logicalShiftRight (x amount : Int) : Int :=
  if 64 ≤ amount then 0
  else if amount ≤ -64 then 0
  else unsigned 64 (shr (unsigned 64 x) amount)

/-- `trunc(a / b)` for `b ≠ 0`: integer division that truncates toward zero (43_kernel_patterns.md R193 (e)). -/
def truncDiv (a b : Int) : Int := Int.tdiv a b

/-- `Norm_W(m)`: the mantissa fraction `k`, the index `msb` of the top set bit and the Q2.30 mantissa `n` of a positive
magnitude (40_bit_primitives.md R108). -/
structure Normalized where
  k   : Int
  msb : Int
  n   : Int
deriving DecidableEq, Repr

/-- `Norm_W(m)` (40_bit_primitives.md R108); every caller passes `1 ≤ m < 2^w`. -/
def normalize (w : Nat) (m : Int) : Normalized :=
  let msb : Int := (w : Int) - 1 - clz w m.toNat
  let n := shr m (msb - 30)
  { k := n - 2 ^ 30, msb := msb, n := n }

end Sys2Proof.Machine
end

