-- ==== Sys2Proof/Machine/Kernel.lean ====
section
/-! DEFINITION. The parameters of the two kernels (43_kernel_patterns.md R191, 00_scope.md R8, R14). -/

namespace Sys2Proof

/-- `W`: the width of a raw value (43_kernel_patterns.md R191). -/
def Kernel.width : Kernel → Nat
  | .q32 => 64
  | .q16 => 32

/-- `F`: the number of fractional bits (43_kernel_patterns.md R191). -/
def Kernel.frac : Kernel → Nat
  | .q32 => 32
  | .q16 => 16

/-- `One`: the raw value of 1.0 (43_kernel_patterns.md R191). -/
def Kernel.one (K : Kernel) : Int := 2 ^ K.frac

/-- `Half`: the raw value of 0.5 (43_kernel_patterns.md R191). -/
def Kernel.half (K : Kernel) : Int := 2 ^ (K.frac - 1)

/-- `Two`: the raw value of 2.0 (43_kernel_patterns.md R191). -/
def Kernel.two (K : Kernel) : Int := 2 ^ (K.frac + 1)

/-- `FMASK`: the fraction mask (43_kernel_patterns.md R191). -/
def Kernel.fmask (K : Kernel) : Int := 2 ^ K.frac - 1

/-- `IMASK`: the integer mask, `~FMASK`, as a signed value (43_kernel_patterns.md R191). -/
def Kernel.imask (K : Kernel) : Int := -(2 ^ K.frac)

/-- `MinValue`: the most negative raw value (43_kernel_patterns.md R191). -/
def Kernel.minValue (K : Kernel) : Int := -(2 ^ (K.width - 1))

/-- `MaxValue`: the most positive raw value (43_kernel_patterns.md R191). -/
def Kernel.maxValue (K : Kernel) : Int := 2 ^ (K.width - 1) - 1

/-- `CONST_K`: the named constants of the kernel (43_kernel_patterns.md R192). -/
def Params.constants (P : Params) : Kernel → KConst
  | .q32 => P.constQ32
  | .q16 => P.constQ16

/-- `x & m` on the `W`-bit two's-complement patterns of a kernel, read as signed (00_scope.md R11). -/
def Kernel.mask (K : Kernel) (x m : Int) : Int :=
  (BitVec.ofInt K.width x &&& BitVec.ofInt K.width m).toInt

end Sys2Proof
end

