-- ==== Sys2Proof/Machine/Operands.lean ====
section
/-! DEFINITION. Operand delivery and result delivery: every operand kind and every result kind of 30_encoding.md R63, R64. -/

namespace Sys2Proof.Machine

/-- The low half `X[31:0]` of an operand word (30_encoding.md R63). -/
def lowHalf (x : Word) : BitVec 32 := x.setWidth 32

/-- `opnd_K(X)`: a raw value of kernel `K`; the Q16.16 kernel reads `X[31:0]` signed and ignores the upper half
(30_encoding.md R63). -/
def opnd (K : Kernel) (x : Word) : Int :=
  match K with
  | .q32 => x.toInt
  | .q16 => (lowHalf x).toInt

/-- An `int`, a Q2.30 word or a shift amount: `sext_32(X[31:0])` (30_encoding.md R63). -/
def opndInt32 (x : Word) : Int := (lowHalf x).toInt

/-- A 64-bit signed word (`shr.w64`, 40_bit_primitives.md R105). -/
def opndInt64 (x : Word) : Int := x.toInt

/-- A 32-bit unsigned word or a binary32 pattern: `X[31:0]` (30_encoding.md R63). -/
def opndBits32 (x : Word) : Nat := (lowHalf x).toNat

/-- A 64-bit unsigned word or a binary64 pattern: `X[63:0]` (30_encoding.md R63). -/
def opndBits64 (x : Word) : Nat := x.toNat

/-- The bit pattern a floating-point conversion reads (30_encoding.md R63). -/
def opndFloat (fmt : FloatFormat) (x : Word) : Int :=
  match fmt with
  | .binary32 => opndBits32 x
  | .binary64 => opndBits64 x

/-- A 32-bit signed result, sign-extended: an `int`, a Q2.30 word, a 32-bit shift result (30_encoding.md R64). -/
def resInt32 (r : Int) : Word := (BitVec.ofInt 32 r).signExtend 64

/-- `res_K(r)`: a raw value of kernel `K`; a Q16.16 result is sign-extended from 32 bits (30_encoding.md R64). -/
def res (K : Kernel) (r : Int) : Word :=
  match K with
  | .q32 => BitVec.ofInt 64 r
  | .q16 => resInt32 r

/-- A 64-bit signed result (`shr.w64`, 40_bit_primitives.md R105). -/
def resInt64 (r : Int) : Word := BitVec.ofInt 64 r

/-- A count, a 64-bit pattern or a binary32 pattern: zero-extended (30_encoding.md R64). -/
def resBits (r : Nat) : Word := BitVec.ofNat 64 r

end Sys2Proof.Machine
end

