-- ==== Sys2Proof/Machine/State.lean ====
section
/-! DEFINITION. The state of FixPointCS CORE. The unit has no register, program counter, flag, control register or memory
(10_state.md R20, R24 to R29; 20_memory.md R40); what the spec does name, and gives a value after reset, are the commands in
flight and the responses pending (10_state.md R33; 70_reset_and_hazards.md R490). -/

namespace Sys2Proof.Machine

/-- The state: the commands accepted and not yet answered, and the responses produced and not yet taken by the host, both
oldest first (10_state.md R21, R22, R33; 70_reset_and_hazards.md R490). The ROM is configuration, not state
(10_state.md R28). [DESIGN CHOICE: notes/assumptions/1.md] -/
structure State where
  inFlight  : List Command
  responses : List Word
deriving DecidableEq, Repr

/-- The faults: none. No command raises an exception, trap or error indication and none fails to produce a response
(60_exceptions.md R460, R466), so no constructor exists, nobody raises one, and that is safe or unsafe for no one. -/
inductive Fault where
deriving DecidableEq, Repr

/-- The refusals. -/
inductive Refusal where
  /-- An instruction whose meaning is not modelled; raised by an arm of `exec` only. It is safe (the model stops where the
  unit goes on). Every instruction of this model has its meaning, so no arm raises it. -/
  | notModelled (mnemonic : String)
deriving DecidableEq, Repr

/-- After reset no command is in flight and no response is pending; there is nothing else to have a value
(10_state.md R33; 70_reset_and_hazards.md R490). -/
def State.reset : State := { inFlight := [], responses := [] }

/-- What a step or an instruction answers. -/
abbrev Result := Host.Outcome State Fault Refusal

end Sys2Proof.Machine
end

