-- ==== Sys2Proof/Machine/Ops.lean ====
section
/-! DEFINITION. The operations on the state: the unit takes the oldest command and delivers a response; the host issues a
command, takes a response, resets the unit (10_state.md R21, R22; 70_reset_and_hazards.md R490). There is no operation on
memory or registers and no exception to take or return from (20_memory.md R40; 10_state.md R25; 60_exceptions.md R466, R467). -/

namespace Sys2Proof.Machine

/-- The response `r` leaves the unit behind the earlier ones: responses leave in the order their commands entered
(10_state.md R22). -/
def State.respond (s : State) (r : Word) : State := { s with responses := s.responses ++ [r] }

/-- The oldest command in flight, taken out of the unit; none when no command is in flight (10_state.md R22). -/
def State.takeCommand (s : State) : Option (Command × State) :=
  match s.inFlight with
  | []        => none
  | cmd :: cs => some (cmd, { s with inFlight := cs })

/-- `R <- r` of an instruction: its one response (10_state.md R22; 00_scope.md R11). -/
def deliver (s : State) (r : Word) : Result := .next (s.respond r)

/-- The host issues a command on the command port (10_state.md R21). -/
def State.issue (s : State) (cmd : Command) : State := { s with inFlight := s.inFlight ++ [cmd] }

/-- The host takes the oldest pending response from the response port; none when none is pending (10_state.md R21, R22). -/
def State.collect (s : State) : Option (Word × State) :=
  match s.responses with
  | []      => none
  | r :: rs => some (r, { s with responses := rs })

/-- The reset event, from any state: commands in flight are dropped and never answered, no response is pending
(70_reset_and_hazards.md R490). -/
def State.resetEvent (_ : State) : State := State.reset

end Sys2Proof.Machine
end

