-- ==== Sys2Proof/Machine/BitPrimitives.lean ====
section
/-! DEFINITION. The bit-normalization primitives as instructions (40_bit_primitives.md R99 to R107). -/

namespace Sys2Proof.Machine

/-- `clz.w32`, op 0x60: `clz_N(x)`, R100 (40_bit_primitives.md R101). -/
def execClzW32 (a : Word) (s : State) : Result :=
  deliver s (resBits (clz 32 (opndBits32 a)))

/-- `clz.w64`, op 0x61: `clz_N(x)`, R100 (40_bit_primitives.md R102). -/
def execClzW64 (a : Word) (s : State) : Result :=
  deliver s (resBits (clz 64 (opndBits64 a)))

/-- `shr.w32`, op 0x62: `ShiftRight_N(x, amount)`, R103 (40_bit_primitives.md R104). -/
def execShrW32 (a b : Word) (s : State) : Result :=
  deliver s (resInt32 (shiftRight 32 (opndInt32 a) (opndInt32 b)))

/-- `shr.w64`, op 0x63: `ShiftRight_N(x, amount)`, R103 (40_bit_primitives.md R105). -/
def execShrW64 (a b : Word) (s : State) : Result :=
  deliver s (resInt64 (shiftRight 64 (opndInt64 a) (opndInt32 b)))

/-- `lshr.w64`, op 0x64: `LogicalShiftRight(x, amount)`, R106 (40_bit_primitives.md R107). -/
def execLshrW64 (a b : Word) (s : State) : Result :=
  deliver s (resInt64 (logicalShiftRight (opndBits64 a) (opndInt32 b)))

end Sys2Proof.Machine
end

