-- ==== Sys2Proof/Machine/Rom.lean ====
section
/-! DEFINITION. The constant ROM and the named constants of the two kernels, with the values the spec gives
(42_rom_tables.md R161 to R182, 43_kernel_patterns.md R192), decimal as written there.
[DESIGN CHOICE: notes/assumptions/5.md; the ROM and the constants are parameters of `Exec` (00_scope.md R9), and the unit
modelled is the spec's instance of them.] -/

namespace Sys2Proof.Machine

/-- `ONE30`: 1.0 in Q2.30 (42_rom_tables.md R182). It is fixed by the format, not a parameter. -/
def one30 : Int := 1073741824

/-- `ROM.rcp_p4l8` (42_rom_tables.md R161). -/
def romRcpP4l8 : LutTable :=
  [[1073741824, -1073727300, 1072611444, -1046074875, 798009927],
   [954437177, -848381183, 753547240, -656293332, 457019896],
   [858993459, -687190705, 549441597, -432171625, 276825778],
   [780903145, -567927214, 412858437, -296001810, 175534949],
   [715827883, -477217175, 318036227, -209450617, 115630314],
   [660764199, -406623223, 250161437, -152328401, 78663154],
   [613566757, -350608999, 200303639, -113408550, 55011678],
   [572662306, -305419507, 162860727, -86156355, 39402007]]

/-- `ROM.rcp_p6` (42_rom_tables.md R162). -/
def romRcpP6 : Poly :=
  [1073741824, -1073175250, 1061446811, -982125227, 738603580, -363996203, 82375377]

/-- `ROM.rcp_p4` (42_rom_tables.md R163). -/
def romRcpP4 : Poly :=
  [1073741824, -1062873402, 950536010, -599717253, 175183733]

/-- `ROM.sqrt_p3l8` (42_rom_tables.md R164). -/
def romSqrtP3l8 : LutTable :=
  [[1073741824, 536856848, -133545782, 57809810],
   [1138875187, 506157253, -112028755, 43755373],
   [1200479854, 480185266, -95720847, 34057710],
   [1259073893, 457840207, -83014436, 27122533],
   [1315059792, 438349648, -72887518, 22014672],
   [1368757628, 421153436, -64662696, 18158667],
   [1420426919, 405834121, -57875156, 15185996],
   [1470281545, 392073381, -52196495, 12852549]]

/-- `ROM.sqrt_p4` (42_rom_tables.md R165). -/
def romSqrtP4 : Poly :=
  [1073741824, 536397819, -129107427, 48813922, -11345888]

/-- `ROM.sqrt_p3` (42_rom_tables.md R166). -/
def romSqrtP3 : Poly :=
  [1073741824, 534187044, -115827838, 26399220]

/-- `ROM.rsqrt_p3l16` (42_rom_tables.md R167). -/
def romRsqrtP3l16 : LutTable :=
  [[1073741824, -536857783, 401409418, -301629807],
   [1041682578, -490193511, 345073411, -245459337],
   [1012333500, -449918174, 299210041, -202052894],
   [985333074, -414870917, 261444096, -168037174],
   [960383883, -384148620, 230026815, -141043812],
   [937238702, -357039346, 203649655, -119379186],
   [915690104, -332974982, 181319120, -101811985],
   [895562589, -311497371, 162270915, -87433503],
   [876706528, -292233307, 145909997, -75563917],
   [858993459, -274876058, 131768012, -65688259],
   [842312387, -259171493, 119472615, -57411961],
   [826566842, -244907398, 108725057, -50429506],
   [811672525, -231905324, 99283591, -44502025],
   [797555404, -220014326, 90951058, -39441062],
   [784150157, -209105890, 83565481, -35096690],
   [771398898, -199069967, 76992885, -31348701]]

/-- `ROM.rsqrt_p5` (42_rom_tables.md R168). -/
def romRsqrtP5 : Poly :=
  [1073741824, -536202622, 392009625, -277936893, 142547626, -34909435]

/-- `ROM.rsqrt_p3` (42_rom_tables.md R169). -/
def romRsqrtP3 : Poly :=
  [1073741824, -522946961, 302405539, -93950277]

/-- `ROM.log2_p5l8` (42_rom_tables.md R170). -/
def romLog2P5l8 : LutTable :=
  [[0, 1549081854, -774523874, 515725956, -376876389, 229978230],
   [182455581, 1376961706, -611974270, 362333424, -236499658, 131740302],
   [345667660, 1239265558, -495701464, 264200455, -155760996, 79811699],
   [493310944, 1126605068, -409671821, 198528512, -106696259, 50615205],
   [628098702, 1032721329, -344238777, 152934405, -75505169, 33345195],
   [752091421, 953281224, -293316254, 120296775, -54917085, 22686505],
   [866890747, 885189706, -252910666, 96322159, -40888163, 15866418],
   [973766362, 826177068, -220313429, 78317098, -31064157, 11364881]]

/-- `ROM.log2_p3l8` (42_rom_tables.md R171). -/
def romLog2P3l8 : LutTable :=
  [[0, 1548955570, -768476745, 431914964],
   [182455581, 1376881029, -608121509, 309170671],
   [345667660, 1239211632, -493131912, 228872239],
   [493310944, 1126567667, -407892964, 174145136],
   [628098702, 1032694581, -342968530, 135567215],
   [752091421, 953261591, -292385139, 107594226],
   [866890747, 885174971, -252212682, 86818184],
   [973766362, 826165795, -219779966, 71065399]]

/-- `ROM.log2_p5` (42_rom_tables.md R172). -/
def romLog2P5 : Poly :=
  [0, 1548246634, -761386526, 446253645, -207850365, 48478436]

/-- `ROM.exp2_p5` (42_rom_tables.md R173). -/
def romExp2P5 : Poly :=
  [1073741824, 744267345, 257856010, 59974168, 9607574, 2036727]

/-- `ROM.exp2_p4` (42_rom_tables.md R174). -/
def romExp2P4 : Poly :=
  [1073741824, 744107298, 259362141, 55559976, 14712409]

/-- `ROM.exp2_p3` (42_rom_tables.md R175). -/
def romExp2P3 : Poly :=
  [1073741824, 747206328, 241446900, 85088596]

/-- `ROM.usin_p4` (42_rom_tables.md R176). -/
def romUsinP4 : Poly :=
  [1686629669, -693597809, 85564576, -5016346, 161734]

/-- `ROM.usin_p3` (42_rom_tables.md R177). -/
def romUsinP3 : Poly :=
  [1686623270, -693514909, 85274806, -4641343]

/-- `ROM.usin_p2` (42_rom_tables.md R178). -/
def romUsinP2 : Poly :=
  [1686035459, -689031843, 76738208]

/-- `ROM.atan_p5l8` (42_rom_tables.md R179). -/
def romAtanP5l8 : LutTable :=
  [[0, 1073741776, 5327, -358093226, 2505719, 201287942],
   [133525159, 1057222602, -130106737, -326098136, 131401932, 117976243],
   [263043837, 1010580429, -237771478, -242891532, 204609541, 10049612],
   [385227074, 941362636, -309482784, -139671309, 208343572, -64736195],
   [497837829, 858993459, -343596645, -45844847, 165559255, -89940608],
   [599791448, 772128968, -347026478, 22953612, 108162494, -80754124],
   [690954054, 687194796, -329856399, 64610008, 57447510, -58294609],
   [771837835, 608136987, -301380066, 84419540, 21222805, -36082772]]

/-- `ROM.atan_p3l8` (42_rom_tables.md R180). -/
def romAtanP3l8 : LutTable :=
  [[0, 1073765719, -970706, -348358946],
   [133525159, 1057289190, -133129555, -287908601],
   [263043837, 1010664347, -241677054, -191284404],
   [385227074, 941439553, -313113699, -90515217],
   [497837829, 859050200, -346304298, -8525489],
   [599791448, 772163537, -348693952, 46339548],
   [690954054, 687211406, -330670972, 76333673],
   [771837835, 608141476, -301613956, 88092478]]

/-- `ROM.atan_p4` (42_rom_tables.md R181). -/
def romAtanP4 : Poly :=
  [1073586686, -354469230, 192616709, -90158030, 21738722]

/-- The ROM of the spec (42_rom_tables.md R161 to R182). -/
def specRom : Rom :=
  { rcpP4l8 := romRcpP4l8
    rcpP6 := romRcpP6
    rcpP4 := romRcpP4
    sqrtP3l8 := romSqrtP3l8
    sqrtP4 := romSqrtP4
    sqrtP3 := romSqrtP3
    rsqrtP3l16 := romRsqrtP3l16
    rsqrtP5 := romRsqrtP5
    rsqrtP3 := romRsqrtP3
    log2P5l8 := romLog2P5l8
    log2P3l8 := romLog2P3l8
    log2P5 := romLog2P5
    exp2P5 := romExp2P5
    exp2P4 := romExp2P4
    exp2P3 := romExp2P3
    usinP4 := romUsinP4
    usinP3 := romUsinP3
    usinP2 := romUsinP2
    atanP5l8 := romAtanP5l8
    atanP3l8 := romAtanP3l8
    atanP4 := romAtanP4
    sqrt2 := 1518500250
    rsqrt2 := 759250125
    atanOne := 843314857
    k2pi := 683565276 }

/-- The named constants of the Q32.32 kernel (43_kernel_patterns.md R192). -/
def specConstQ32 : KConst :=
  { pi := 13493037705, piHalf := 6746518852, pi2 := 26986075409, e := 11674931555,
    ln2 := 2977044472, rcpLn2 := 6196328019 }

/-- The named constants of the Q16.16 kernel (43_kernel_patterns.md R192). -/
def specConstQ16 : KConst :=
  { pi := 205887, piHalf := 102944, pi2 := 411775, e := 178145, ln2 := 45426, rcpLn2 := 94548 }

/-- The parameters the unit of the spec has (00_scope.md R9). -/
def specParams : Params :=
  { rom := specRom, constQ32 := specConstQ32, constQ16 := specConstQ16 }

end Sys2Proof.Machine
end

