-- ==== Sys2Proof/Machine/Engine.lean ====
section
/-! DEFINITION. The polynomial and lookup-table evaluation engine (41_poly_engine.md R121 to R129). Arguments and results
are Q2.30 words read as signed integers. -/

namespace Sys2Proof.Machine

/-- `Qmul30(a, b)`: the product of two Q2.30 words, floored and wrapped (41_poly_engine.md R122). -/
def qmul30 (a b : Int) : Int := wrap 32 (shr (a * b) 30)

/-- `Horner(C, a)`: from the highest power down, each step one exact product floored by 30 bits plus the next coefficient,
wrapped to 32 bits (41_poly_engine.md R124). The list holds `C[0], …, C[d]`. -/
def horner (a : Int) : Poly → Int
  | []          => 0
  | [c]         => c
  | c :: d :: cs => wrap 32 (shr (a * horner a (d :: cs)) 30 + c)

/-- `EvalPlain(T, k)` (41_poly_engine.md R125). -/
def evalPlain (table : Poly) (k : Int) : Int := horner k table

/-- `EvalLut(T, k)` for a table of `2 ^ bits` segments: the top bits of the 30-bit mantissa fraction select the row, the
remaining bits are the argument; bits 31:30 are not read (41_poly_engine.md R126). -/
def evalLut (bits : Nat) (table : LutTable) (k : Int) : Int :=
  let word := unsigned 32 k
  let j := bitField word 29 (30 - bits)
  let r := bitField word (29 - bits) 0
  horner r (table.getD j.toNat [])

/-- `RcpEval_t(k)` (41_poly_engine.md R127). -/
def rcpEval (rom : Rom) (t : Tier) (k : Int) : Int :=
  match t with
  | .default => evalLut 3 rom.rcpP4l8 k
  | .fast    => evalPlain rom.rcpP6 k
  | .fastest => evalPlain rom.rcpP4 k

/-- `SqrtEval_t(k)` (41_poly_engine.md R127). -/
def sqrtEval (rom : Rom) (t : Tier) (k : Int) : Int :=
  match t with
  | .default => evalLut 3 rom.sqrtP3l8 k
  | .fast    => evalPlain rom.sqrtP4 k
  | .fastest => evalPlain rom.sqrtP3 k

/-- `RSqrtEval_t(k)` (41_poly_engine.md R127). -/
def rsqrtEval (rom : Rom) (t : Tier) (k : Int) : Int :=
  match t with
  | .default => evalLut 4 rom.rsqrtP3l16 k
  | .fast    => evalPlain rom.rsqrtP5 k
  | .fastest => evalPlain rom.rsqrtP3 k

/-- `Log2Eval_t(k)` (41_poly_engine.md R127). -/
def log2Eval (rom : Rom) (t : Tier) (k : Int) : Int :=
  match t with
  | .default => evalLut 3 rom.log2P5l8 k
  | .fast    => evalLut 3 rom.log2P3l8 k
  | .fastest => evalPlain rom.log2P5 k

/-- `Exp2Eval_t(k)` (41_poly_engine.md R127). -/
def exp2Eval (rom : Rom) (t : Tier) (k : Int) : Int :=
  match t with
  | .default => evalPlain rom.exp2P5 k
  | .fast    => evalPlain rom.exp2P4 k
  | .fastest => evalPlain rom.exp2P3 k

/-- The unit-sine table of a tier (41_poly_engine.md R127). -/
def usinTable (rom : Rom) : Tier → Poly
  | .default => rom.usinP4
  | .fast    => rom.usinP3
  | .fastest => rom.usinP2

/-- The fold of quadrants 1 and 2: where bit 31 and bit 30 of the phase word differ, the word is mirrored
(41_poly_engine.md R128). -/
def foldPhase (z : Int) : Int :=
  let z := wrap 32 z
  if bitField z 31 31 ≠ bitField z 30 30 then wrap 32 (2 ^ 31 - z) else z

/-- `UnitSin_t(z)`: the sine of `z / 2^30` quarter turns (41_poly_engine.md R128). -/
def unitSin (rom : Rom) (t : Tier) (z : Int) : Int :=
  let z := foldPhase z
  let zz := qmul30 z z
  qmul30 (horner zz (usinTable rom t)) z

/-- `AtanEval_t(k)`: the arctangent of the ratio `k / 2^30` (41_poly_engine.md R129). -/
def atanEval (rom : Rom) (t : Tier) (k : Int) : Int :=
  let k := wrap 32 k
  if one30 ≤ k then rom.atanOne
  else
    match t with
    | .default => evalLut 3 rom.atanP5l8 k
    | .fast    => evalLut 3 rom.atanP3l8 k
    | .fastest => qmul30 k (horner (qmul30 k k) rom.atanP4)

end Sys2Proof.Machine
end

