-- ==== Sys2Proof/Machine/PolyEngine.lean ====
section
/-! DEFINITION. The quantized multiply and the evaluators as instructions: each reads a Q2.30 word from the low half of its
operand and answers a Q2.30 word (41_poly_engine.md R120, R123, R130 to R150). -/

namespace Sys2Proof.Machine

/-- `qmul30`, op 0x65: `Qmul30(a, b)`, R122 (41_poly_engine.md R123). -/
def execQmul30 (a b : Word) (s : State) : Result :=
  deliver s (resInt32 (qmul30 (opndInt32 a) (opndInt32 b)))

/-- `rcp.p4l8`, op 0xE0: the evaluator `RcpEval_0`, R127 (41_poly_engine.md R130). -/
def execRcpP4l8 (a : Word) (s : State) : Result :=
  deliver s (resInt32 (evalLut 3 specParams.rom.rcpP4l8 (opndInt32 a)))

/-- `rcp.p6`, op 0xE1: the evaluator `RcpEval_1`, R127 (41_poly_engine.md R131). -/
def execRcpP6 (a : Word) (s : State) : Result :=
  deliver s (resInt32 (evalPlain specParams.rom.rcpP6 (opndInt32 a)))

/-- `rcp.p4`, op 0xE2: the evaluator `RcpEval_2`, R127 (41_poly_engine.md R132). -/
def execRcpP4 (a : Word) (s : State) : Result :=
  deliver s (resInt32 (evalPlain specParams.rom.rcpP4 (opndInt32 a)))

/-- `sqrt.p3l8`, op 0xE4: the evaluator `SqrtEval_0`, R127 (41_poly_engine.md R133). -/
def execSqrtP3l8 (a : Word) (s : State) : Result :=
  deliver s (resInt32 (evalLut 3 specParams.rom.sqrtP3l8 (opndInt32 a)))

/-- `sqrt.p4`, op 0xE5: the evaluator `SqrtEval_1`, R127 (41_poly_engine.md R134). -/
def execSqrtP4 (a : Word) (s : State) : Result :=
  deliver s (resInt32 (evalPlain specParams.rom.sqrtP4 (opndInt32 a)))

/-- `sqrt.p3`, op 0xE6: the evaluator `SqrtEval_2`, R127 (41_poly_engine.md R135). -/
def execSqrtP3 (a : Word) (s : State) : Result :=
  deliver s (resInt32 (evalPlain specParams.rom.sqrtP3 (opndInt32 a)))

/-- `rsqrt.p3l16`, op 0xE8: the evaluator `RSqrtEval_0`, R127 (41_poly_engine.md R136). -/
def execRsqrtP3l16 (a : Word) (s : State) : Result :=
  deliver s (resInt32 (evalLut 4 specParams.rom.rsqrtP3l16 (opndInt32 a)))

/-- `rsqrt.p5`, op 0xE9: the evaluator `RSqrtEval_1`, R127 (41_poly_engine.md R137). -/
def execRsqrtP5 (a : Word) (s : State) : Result :=
  deliver s (resInt32 (evalPlain specParams.rom.rsqrtP5 (opndInt32 a)))

/-- `rsqrt.p3`, op 0xEA: the evaluator `RSqrtEval_2`, R127 (41_poly_engine.md R138). -/
def execRsqrtP3 (a : Word) (s : State) : Result :=
  deliver s (resInt32 (evalPlain specParams.rom.rsqrtP3 (opndInt32 a)))

/-- `log2.p5l8`, op 0xEC: the evaluator `Log2Eval_0`, R127 (41_poly_engine.md R139). -/
def execLog2P5l8 (a : Word) (s : State) : Result :=
  deliver s (resInt32 (evalLut 3 specParams.rom.log2P5l8 (opndInt32 a)))

/-- `log2.p3l8`, op 0xED: the evaluator `Log2Eval_1`, R127 (41_poly_engine.md R140). -/
def execLog2P3l8 (a : Word) (s : State) : Result :=
  deliver s (resInt32 (evalLut 3 specParams.rom.log2P3l8 (opndInt32 a)))

/-- `log2.p5`, op 0xEE: the evaluator `Log2Eval_2`, R127 (41_poly_engine.md R141). -/
def execLog2P5 (a : Word) (s : State) : Result :=
  deliver s (resInt32 (evalPlain specParams.rom.log2P5 (opndInt32 a)))

/-- `exp2.p5`, op 0xF0: the evaluator `Exp2Eval_0`, R127 (41_poly_engine.md R142). -/
def execExp2P5 (a : Word) (s : State) : Result :=
  deliver s (resInt32 (evalPlain specParams.rom.exp2P5 (opndInt32 a)))

/-- `exp2.p4`, op 0xF1: the evaluator `Exp2Eval_1`, R127 (41_poly_engine.md R143). -/
def execExp2P4 (a : Word) (s : State) : Result :=
  deliver s (resInt32 (evalPlain specParams.rom.exp2P4 (opndInt32 a)))

/-- `exp2.p3`, op 0xF2: the evaluator `Exp2Eval_2`, R127 (41_poly_engine.md R144). -/
def execExp2P3 (a : Word) (s : State) : Result :=
  deliver s (resInt32 (evalPlain specParams.rom.exp2P3 (opndInt32 a)))

/-- `usin.p4`, op 0xF4: the evaluator `UnitSin_0`, R127 (41_poly_engine.md R145). -/
def execUsinP4 (a : Word) (s : State) : Result :=
  deliver s (resInt32 (unitSin specParams.rom .default (opndInt32 a)))

/-- `usin.p3`, op 0xF5: the evaluator `UnitSin_1`, R127 (41_poly_engine.md R146). -/
def execUsinP3 (a : Word) (s : State) : Result :=
  deliver s (resInt32 (unitSin specParams.rom .fast (opndInt32 a)))

/-- `usin.p2`, op 0xF6: the evaluator `UnitSin_2`, R127 (41_poly_engine.md R147). -/
def execUsinP2 (a : Word) (s : State) : Result :=
  deliver s (resInt32 (unitSin specParams.rom .fastest (opndInt32 a)))

/-- `atan.p5l8`, op 0xF8: the evaluator `AtanEval_0`, R127 (41_poly_engine.md R148). -/
def execAtanP5l8 (a : Word) (s : State) : Result :=
  deliver s (resInt32 (atanEval specParams.rom .default (opndInt32 a)))

/-- `atan.p3l8`, op 0xF9: the evaluator `AtanEval_1`, R127 (41_poly_engine.md R149). -/
def execAtanP3l8 (a : Word) (s : State) : Result :=
  deliver s (resInt32 (atanEval specParams.rom .fast (opndInt32 a)))

/-- `atan.p4`, op 0xFA: the evaluator `AtanEval_2`, R127 (41_poly_engine.md R150). -/
def execAtanP4 (a : Word) (s : State) : Result :=
  deliver s (resInt32 (atanEval specParams.rom .fastest (opndInt32 a)))

end Sys2Proof.Machine
end

