-- ==== Sys2Proof/Machine/Float.lean ====
section
/-! DEFINITION. The floating-point boundary: the formats binary32 and binary64 and the conversions from and to the two
kernels, by integer rules (43_kernel_patterns.md R196 to R198). There is no floating-point arithmetic, rounding mode or
exception flag (R196). -/

namespace Sys2Proof

/-- `p`: the number of fraction bits (43_kernel_patterns.md R196). -/
def FloatFormat.fracBits : FloatFormat → Nat
  | .binary32 => 23
  | .binary64 => 52

/-- The width of the exponent field (43_kernel_patterns.md R196). -/
def FloatFormat.expBits : FloatFormat → Nat
  | .binary32 => 8
  | .binary64 => 11

/-- The exponent bias (43_kernel_patterns.md R196). -/
def FloatFormat.bias : FloatFormat → Nat
  | .binary32 => 127
  | .binary64 => 1023

end Sys2Proof

namespace Sys2Proof.Machine

/-- A shift amount brought into `-64 .. 64`. A shift of a significand by more than 64 bits either way leaves nothing that a
raw value of either kernel can hold (`fromFP_shift` in Laws/Float.lean), and the numbers stay small. -/
def shiftLimit (amount : Int) : Int := max (-64) (min 64 amount)

/-- The sign bit of a floating-point pattern (43_kernel_patterns.md R196). -/
def floatSign (fmt : FloatFormat) (bits : Int) : Int :=
  bitField bits (fmt.expBits + fmt.fracBits) (fmt.expBits + fmt.fracBits)

/-- The exponent field `e` of a floating-point pattern (43_kernel_patterns.md R196). -/
def floatExp (fmt : FloatFormat) (bits : Int) : Int :=
  bitField bits (fmt.expBits + fmt.fracBits - 1) fmt.fracBits

/-- The fraction field `m` of a floating-point pattern (43_kernel_patterns.md R196). -/
def floatFrac (fmt : FloatFormat) (bits : Int) : Int := bitField bits (fmt.fracBits - 1) 0

/-- The significand of a finite pattern: `m` for a zero or a subnormal, `2^p + m` for a normal value
(43_kernel_patterns.md R196). -/
def floatSig (fmt : FloatFormat) (bits : Int) : Int :=
  if floatExp fmt bits = 0 then floatFrac fmt bits else 2 ^ fmt.fracBits + floatFrac fmt bits

/-- The power of two a finite pattern's significand is multiplied by: `1 - bias - p` for a zero or a subnormal,
`e - bias - p` for a normal value (43_kernel_patterns.md R196). -/
def floatScale (fmt : FloatFormat) (bits : Int) : Int :=
  (if floatExp fmt bits = 0 then 1 else floatExp fmt bits) - fmt.bias - fmt.fracBits

/-- `FromFP_K(bits, fmt)`: an infinity or a NaN gives 0; a finite value is scaled by `2^F` exactly, truncated toward zero
and wrapped to `W` bits (43_kernel_patterns.md R197). -/
def fromFP (K : Kernel) (fmt : FloatFormat) (bits : Int) : Int :=
  if floatExp fmt bits = 2 ^ fmt.expBits - 1 then 0
  else
    let magnitude := shr (floatSig fmt bits) (shiftLimit (-(floatScale fmt bits + K.frac)))
    wrap K.width (if floatSign fmt bits = 1 then -magnitude else magnitude)

/-- The significand of `m > 0` rounded to `p + 1` bits, to nearest with ties to even, before a carry out of the top bit is
absorbed; `msb` is the index of the top set bit of `m` (43_kernel_patterns.md R198). -/
def roundSignificand (p m msb : Nat) : Nat :=
  if msb ≤ p then m * 2 ^ (p - msb)
  else
    let sh := msb - p
    let sig := m / 2 ^ sh
    let rem := m % 2 ^ sh
    let half := 2 ^ (sh - 1)
    if half < rem ∨ (rem = half ∧ sig % 2 = 1) then sig + 1 else sig

/-- `ToFP_K(x, fmt)`: the pattern of `x / 2^F`, rounded once, to nearest with ties to even (43_kernel_patterns.md R198). -/
def toFP (K : Kernel) (fmt : FloatFormat) (x : Int) : Nat :=
  if x = 0 then 0
  else
    let p := fmt.fracBits
    let s := if x < 0 then 1 else 0
    let m := x.natAbs
    let msb := m.log2
    let e : Int := msb - K.frac
    let rounded := roundSignificand p m msb
    let sig := if rounded = 2 ^ (p + 1) then 2 ^ p else rounded
    let e := if rounded = 2 ^ (p + 1) then e + 1 else e
    (s <<< (fmt.expBits + p)) ||| ((e + fmt.bias).toNat <<< p) ||| (sig - 2 ^ p)

end Sys2Proof.Machine
end

