-- ==== Sys2Proof/Machine/Patterns.lean ====
section
/-! DEFINITION. The kernel-generic functions every kernel instruction instantiates (43_kernel_patterns.md R194 to R222),
over the signed integer readings of the operands. `P` are the parameters of `Exec` (00_scope.md R9), `K` the kernel, `t` the
tier. Values are unbounded integers and every narrowing is a `wrap` (43_kernel_patterns.md R190). -/

namespace Sys2Proof.Machine

/-! ## Arithmetic -/

/-- `Add_K(a, b)` (43_kernel_patterns.md R222). -/
def add (K : Kernel) (a b : Int) : Int := wrap K.width (a + b)

/-- `Sub_K(a, b)` (43_kernel_patterns.md R222). -/
def sub (K : Kernel) (a b : Int) : Int := wrap K.width (a - b)

/-- `Mul_K(a, b)`: the Q32.32 kernel combines partial products of the integer and fraction halves, the Q16.16 kernel forms
the product directly (43_kernel_patterns.md R194). -/
def mul (K : Kernel) (a b : Int) : Int :=
  match K with
  | .q32 =>
    let ai := shr a 32
    let af := unsigned 32 a
    let bi := shr b 32
    let bf := unsigned 32 b
    wrap 64 (logicalShiftRight (af * bf) 32 + ai * b + af * bi)
  | .q16 => wrap 32 (shr (a * b) 16)

/-- `DivPrecise_K(a, b)`: exact division, truncated; the zero test is first (43_kernel_patterns.md R195, 60_exceptions.md
R465). -/
def divPrecise (K : Kernel) (a b : Int) : Int :=
  if b = 0 ∨ b = K.minValue then 0
  else
    let ua : Int := a.natAbs
    let ub : Int := b.natAbs
    if ub ≤ shr ua (K.width - K.frac) then K.maxValue
    else
      let q := ua * 2 ^ K.frac / ub
      wrap K.width (if (a < 0) ≠ (b < 0) then -q else q)

/-- `DivApprox_K,t(a, b)`: the divisor is normalized and its reciprocal evaluated, the product is shifted once
(43_kernel_patterns.md R199). -/
def divApprox (P : Params) (K : Kernel) (t : Tier) (a b : Int) : Int :=
  if b = 0 ∨ b = K.minValue then 0
  else
    let sg : Int := if b < 0 then -1 else 1
    let d := normalize K.width b.natAbs
    let exp := d.msb - K.frac
    let r := rcpEval P.rom t d.k
    wrap K.width (shr (sg * a * r) (30 + exp))

/-- `Mod_K(a, b)` (43_kernel_patterns.md R216). -/
def mod (K : Kernel) (a b : Int) : Int :=
  if b = 0 then 0
  else
    let q := wrap K.width (truncDiv a b)
    wrap K.width (a - q * b)

/-! ## Rounding, utility and integer conversion -/

/-- `Floor_K(x)` (43_kernel_patterns.md R217). -/
def floor (K : Kernel) (x : Int) : Int := K.mask x K.imask

/-- `Ceil_K(x)` (43_kernel_patterns.md R217). -/
def ceil (K : Kernel) (x : Int) : Int := K.mask (wrap K.width (x + K.fmask)) K.imask

/-- `Round_K(x)` (43_kernel_patterns.md R217). -/
def round (K : Kernel) (x : Int) : Int := K.mask (wrap K.width (x + K.half)) K.imask

/-- `Fract_K(x)` (43_kernel_patterns.md R217). -/
def fract (K : Kernel) (x : Int) : Int := K.mask x K.fmask

/-- `FloorToInt_K(x)` (43_kernel_patterns.md R218). -/
def floorToInt (K : Kernel) (x : Int) : Int := wrap 32 (shr x K.frac)

/-- `CeilToInt_K(x)` (43_kernel_patterns.md R218). -/
def ceilToInt (K : Kernel) (x : Int) : Int := wrap 32 (shr (wrap K.width (x + K.fmask)) K.frac)

/-- `RoundToInt_K(x)` (43_kernel_patterns.md R218). -/
def roundToInt (K : Kernel) (x : Int) : Int := wrap 32 (shr (wrap K.width (x + K.half)) K.frac)

/-- `FromInt_K(i)` (43_kernel_patterns.md R221). -/
def fromInt (K : Kernel) (i : Int) : Int := wrap K.width (i * 2 ^ K.frac)

/-- `Min_K(a, b)` (43_kernel_patterns.md R219). -/
def minRaw (a b : Int) : Int := if a < b then a else b

/-- `Max_K(a, b)` (43_kernel_patterns.md R219). -/
def maxRaw (a b : Int) : Int := if b < a then a else b

/-- `Clamp_K(a, lo, hi)`: the upper bound is tested first (43_kernel_patterns.md R219). -/
def clampRaw (a lo hi : Int) : Int := if hi < a then hi else if a < lo then lo else a

/-- `Lerp_K(a, b, t)`: two native multiplies, `t` not clamped (43_kernel_patterns.md R220). -/
def lerp (K : Kernel) (a b t : Int) : Int :=
  wrap K.width (mul K a (wrap K.width (K.one - t)) + mul K b t)

/-! ## Reciprocal and square root -/

/-- `Rcp_K,t(x)` (43_kernel_patterns.md R200). -/
def rcp (P : Params) (K : Kernel) (t : Tier) (x : Int) : Int :=
  if x ≤ 0 then 0
  else
    let d := normalize K.width x
    let exp := d.msb - K.frac
    let r := rcpEval P.rom t d.k
    wrap K.width (shr r (30 + exp - K.frac))

/-- `Sqrt_K,t(x)` (43_kernel_patterns.md R201). -/
def sqrt (P : Params) (K : Kernel) (t : Tier) (x : Int) : Int :=
  if x ≤ 0 then 0
  else
    let d := normalize K.width x
    let exp := d.msb - K.frac
    let y := sqrtEval P.rom t d.k
    let h := shr exp 1
    let adj := if exp % 2 = 1 then P.rom.sqrt2 else one30
    wrap K.width (shr (adj * y) (60 - K.frac - h))

/-- `RSqrt_K,t(x)` (43_kernel_patterns.md R202). -/
def rsqrt (P : Params) (K : Kernel) (t : Tier) (x : Int) : Int :=
  if x ≤ 0 then 0
  else
    let d := normalize K.width x
    let exp := d.msb - K.frac
    let y := rsqrtEval P.rom t d.k
    let h := shr exp 1
    let adj := if exp % 2 = 1 then P.rom.rsqrt2 else one30
    wrap K.width (shr (adj * y) (60 - K.frac + h))

/-! ## Exponentials, logarithms, power -/

/-- `Exp2Core_K,t(v)` for an unbounded integer `v`: the clamps, then the polynomial on the fraction, shifted by the integer
part (43_kernel_patterns.md R203). -/
def exp2Core (P : Params) (K : Kernel) (t : Tier) (v : Int) : Int :=
  if ((K.width : Int) - K.frac - 1) * K.one ≤ v then K.maxValue
  else if v < -(K.frac : Int) * K.one then 0
  else
    let i := shr v K.frac
    let f := unsigned K.frac v
    let k := shr f ((K.frac : Int) - 30)
    let y := exp2Eval P.rom t k
    wrap K.width (shr y (30 - K.frac - i))

/-- `Exp2_K,t(x)` (43_kernel_patterns.md R203). -/
def exp2 (P : Params) (K : Kernel) (t : Tier) (x : Int) : Int := exp2Core P K t x

/-- `ExpCore_K,t(v)`: the product with `RCP_LN2` is exact and not wrapped (43_kernel_patterns.md R204). -/
def expCore (P : Params) (K : Kernel) (t : Tier) (v : Int) : Int :=
  exp2Core P K t (shr (v * (P.constants K).rcpLn2) K.frac)

/-- `Exp_K,t(x)` (43_kernel_patterns.md R204). -/
def exp (P : Params) (K : Kernel) (t : Tier) (x : Int) : Int := expCore P K t x

/-- `Log2_K,t(x)` (43_kernel_patterns.md R205). -/
def log2 (P : Params) (K : Kernel) (t : Tier) (x : Int) : Int :=
  if x ≤ 0 then 0
  else
    let d := normalize K.width x
    let exp := d.msb - K.frac
    let y := log2Eval P.rom t d.k
    wrap K.width (exp * K.one + shr y (30 - K.frac))

/-- `Log_K,t(x)`: the base-2 logarithm times `LN2` with the kernel's own multiply (43_kernel_patterns.md R206). -/
def log (P : Params) (K : Kernel) (t : Tier) (x : Int) : Int := mul K (log2 P K t x) (P.constants K).ln2

/-- `Pow_K,t(a, b)`: the base is tested first; the product is exact and not wrapped (43_kernel_patterns.md R207). -/
def pow (P : Params) (K : Kernel) (t : Tier) (a b : Int) : Int :=
  if a ≤ 0 then 0
  else expCore P K t (shr (b * log P K t a) K.frac)

/-! ## Trigonometry -/

/-- `Z_K(x)`: angle to quarter-turn phase word (43_kernel_patterns.md R208). -/
def phase (P : Params) (K : Kernel) (x : Int) : Int := wrap 32 (shr (x * P.rom.k2pi) K.frac)

/-- `FromQ30_K(s)`: a Q2.30 word in the kernel's format (43_kernel_patterns.md R209). -/
def fromQ30 (K : Kernel) (s : Int) : Int := wrap K.width (shr s (30 - K.frac))

/-- `Sin_K,t(x)` (43_kernel_patterns.md R209). -/
def sin (P : Params) (K : Kernel) (t : Tier) (x : Int) : Int := fromQ30 K (unitSin P.rom t (phase P K x))

/-- `Cos_K,t(x)`: the quarter turn is added to the phase word (43_kernel_patterns.md R210). -/
def cos (P : Params) (K : Kernel) (t : Tier) (x : Int) : Int :=
  fromQ30 K (unitSin P.rom t (wrap 32 (phase P K x + 2 ^ 30)))

/-- `Tan_K,t(x)`: the Q2.30 sine and cosine words divided as raw values of the kernel (43_kernel_patterns.md R211). -/
def tan (P : Params) (K : Kernel) (t : Tier) (x : Int) : Int :=
  let z := phase P K x
  let s := unitSin P.rom t z
  let c := unitSin P.rom t (wrap 32 (z + 2 ^ 30))
  divApprox P K t s c

/-- The angle of `Atan2` in the first octant: `num / den` with `num ≤ den` and `0 < den`, as a Q2.30 ratio limited to 1,
through the arctangent evaluator, in the kernel's format (43_kernel_patterns.md R212). -/
def octantAngle (P : Params) (K : Kernel) (t : Tier) (num den : Int) : Int :=
  let d := normalize K.width den
  let oox := rcpEval P.rom t d.k
  let yr := shr num (d.msb - 30)
  let q := shr (yr * oox) 30
  let q := if 2 ^ 30 < q then 2 ^ 30 else q
  shr (atanEval P.rom t q) (30 - K.frac)

/-- `Atan2_K,t(y, x)`: the octant angle of the magnitudes, and the offset the signs and the swap select
(43_kernel_patterns.md R212). -/
def atan2 (P : Params) (K : Kernel) (t : Tier) (y x : Int) : Int :=
  let ay : Int := y.natAbs
  let ax : Int := x.natAbs
  let c := P.constants K
  if ay = 0 ∧ ax = 0 then 0
  else if ax < ay then
    let v := octantAngle P K t ax ay
    wrap K.width
      (if y < 0 then (if x < 0 then -c.piHalf - v else -c.piHalf + v)
       else (if x < 0 then c.piHalf + v else c.piHalf - v))
  else
    let v := octantAngle P K t ay ax
    wrap K.width
      (if x < 0 then (if y < 0 then v - c.pi else c.pi - v)
       else (if y < 0 then -v else v))

/-- `Atan_K,t(x)` (43_kernel_patterns.md R213). -/
def atan (P : Params) (K : Kernel) (t : Tier) (x : Int) : Int := atan2 P K t x K.one

/-- The square root of `(1 + x)(1 - x)` in the Q32.32 kernel, which `Asin` and `Acos` give to `Atan2`
(43_kernel_patterns.md R214). -/
def arcRoot (P : Params) (t : Tier) (x : Int) : Int :=
  sqrt P .q32 t (mul .q32 (wrap 64 (Kernel.q32.one + x)) (wrap 64 (Kernel.q32.one - x)))

/-- `Asin_q32,t(x)` (43_kernel_patterns.md R214). -/
def asinQ32 (P : Params) (t : Tier) (x : Int) : Int :=
  if x < -Kernel.q32.one ∨ Kernel.q32.one < x then 0
  else atan2 P .q32 t x (arcRoot P t x)

/-- `Acos_q32,t(x)` (43_kernel_patterns.md R214). -/
def acosQ32 (P : Params) (t : Tier) (x : Int) : Int :=
  if x < -Kernel.q32.one ∨ Kernel.q32.one < x then 0
  else atan2 P .q32 t (arcRoot P t x) x

/-- `Asin_K,t(x)`: the Q16.16 kernel tests its own domain, widens, asks the Q32.32 kernel and narrows with floor
(43_kernel_patterns.md R214, R215). -/
def asin (P : Params) (K : Kernel) (t : Tier) (x : Int) : Int :=
  match K with
  | .q32 => asinQ32 P t x
  | .q16 =>
    if x < -Kernel.q16.one ∨ Kernel.q16.one < x then 0
    else wrap 32 (shr (asinQ32 P t (x * 2 ^ 16)) 16)

/-- `Acos_K,t(x)`, as `asin` (43_kernel_patterns.md R214, R215). -/
def acos (P : Params) (K : Kernel) (t : Tier) (x : Int) : Int :=
  match K with
  | .q32 => acosQ32 P t x
  | .q16 =>
    if x < -Kernel.q16.one ∨ Kernel.q16.one < x then 0
    else wrap 32 (shr (acosQ32 P t (x * 2 ^ 16)) 16)

end Sys2Proof.Machine
end

