-- ==== Sys2Proof/Machine/Q16Arith.lean ====
section
/-! DEFINITION. The Q16.16 kernel: conversion, arithmetic, rounding and utility (47_q16_arith.md R349 to R373). Every instruction reads
its operand words, delivers one response and touches nothing else (R349; 10_state.md R22, R25). -/

namespace Sys2Proof.Machine

/-- `fromint.q16`, op 0x80: `FromInt_q16`, 43_kernel_patterns.md R221 (47_q16_arith.md R350). -/
def execFromintQ16 (a : Word) (s : State) : Result :=
  deliver s (res .q16 (fromInt .q16 (opndInt32 a)))

/-- `fromfloat.q16`, op 0x81: `FromFloat_q16`, 43_kernel_patterns.md R197 (47_q16_arith.md R351). -/
def execFromfloatQ16 (a : Word) (s : State) : Result :=
  deliver s (res .q16 (fromFP .q16 .binary32 (opndFloat .binary32 a)))

/-- `fromdouble.q16`, op 0x82: `FromDouble_q16`, 43_kernel_patterns.md R197 (47_q16_arith.md R352). -/
def execFromdoubleQ16 (a : Word) (s : State) : Result :=
  deliver s (res .q16 (fromFP .q16 .binary64 (opndFloat .binary64 a)))

/-- `todouble.q16`, op 0x83: `ToDouble_q16`, 43_kernel_patterns.md R198 (47_q16_arith.md R353). -/
def execTodoubleQ16 (a : Word) (s : State) : Result :=
  deliver s (resBits (toFP .q16 .binary64 (opnd .q16 a)))

/-- `tofloat.q16`, op 0x84: `ToFloat_q16`, 43_kernel_patterns.md R198 (47_q16_arith.md R354). -/
def execTofloatQ16 (a : Word) (s : State) : Result :=
  deliver s (resBits (toFP .q16 .binary32 (opnd .q16 a)))

/-- `floortoint.q16`, op 0x85: `FloorToInt_q16`, 43_kernel_patterns.md R218 (47_q16_arith.md R355). -/
def execFloortointQ16 (a : Word) (s : State) : Result :=
  deliver s (resInt32 (floorToInt .q16 (opnd .q16 a)))

/-- `ceiltoint.q16`, op 0x86: `CeilToInt_q16`, 43_kernel_patterns.md R218 (47_q16_arith.md R356). -/
def execCeiltointQ16 (a : Word) (s : State) : Result :=
  deliver s (resInt32 (ceilToInt .q16 (opnd .q16 a)))

/-- `roundtoint.q16`, op 0x87: `RoundToInt_q16`, 43_kernel_patterns.md R218 (47_q16_arith.md R357). -/
def execRoundtointQ16 (a : Word) (s : State) : Result :=
  deliver s (resInt32 (roundToInt .q16 (opnd .q16 a)))

/-- `add.q16`, op 0x88: `Add_q16`, 43_kernel_patterns.md R222 (47_q16_arith.md R358). -/
def execAddQ16 (a b : Word) (s : State) : Result :=
  deliver s (res .q16 (add .q16 (opnd .q16 a) (opnd .q16 b)))

/-- `sub.q16`, op 0x89: `Sub_q16`, 43_kernel_patterns.md R222 (47_q16_arith.md R359). -/
def execSubQ16 (a b : Word) (s : State) : Result :=
  deliver s (res .q16 (sub .q16 (opnd .q16 a) (opnd .q16 b)))

/-- `mul.q16`, op 0x8A: `Mul_q16`, 43_kernel_patterns.md R194 (47_q16_arith.md R360). -/
def execMulQ16 (a b : Word) (s : State) : Result :=
  deliver s (res .q16 (mul .q16 (opnd .q16 a) (opnd .q16 b)))

/-- `div.q16`, op 0x8C: `Div_q16`, 43_kernel_patterns.md R199 (47_q16_arith.md R361). -/
def execDivQ16 (a b : Word) (s : State) : Result :=
  deliver s (res .q16 (divApprox specParams .q16 .default (opnd .q16 a) (opnd .q16 b)))

/-- `divfast.q16`, op 0x8D: `Div_q16`, tier 1, 43_kernel_patterns.md R199 (47_q16_arith.md R362). -/
def execDivfastQ16 (a b : Word) (s : State) : Result :=
  deliver s (res .q16 (divApprox specParams .q16 .fast (opnd .q16 a) (opnd .q16 b)))

/-- `divfastest.q16`, op 0x8E: `Div_q16`, tier 2, 43_kernel_patterns.md R199 (47_q16_arith.md R363). -/
def execDivfastestQ16 (a b : Word) (s : State) : Result :=
  deliver s (res .q16 (divApprox specParams .q16 .fastest (opnd .q16 a) (opnd .q16 b)))

/-- `divprecise.q16`, op 0x8F: `DivPrecise_q16`, 43_kernel_patterns.md R195 (47_q16_arith.md R364). -/
def execDivpreciseQ16 (a b : Word) (s : State) : Result :=
  deliver s (res .q16 (divPrecise .q16 (opnd .q16 a) (opnd .q16 b)))

/-- `ceil.q16`, op 0x90: `Ceil_q16`, 43_kernel_patterns.md R217 (47_q16_arith.md R365). -/
def execCeilQ16 (a : Word) (s : State) : Result :=
  deliver s (res .q16 (ceil .q16 (opnd .q16 a)))

/-- `floor.q16`, op 0x91: `Floor_q16`, 43_kernel_patterns.md R217 (47_q16_arith.md R366). -/
def execFloorQ16 (a : Word) (s : State) : Result :=
  deliver s (res .q16 (floor .q16 (opnd .q16 a)))

/-- `round.q16`, op 0x92: `Round_q16`, 43_kernel_patterns.md R217 (47_q16_arith.md R367). -/
def execRoundQ16 (a : Word) (s : State) : Result :=
  deliver s (res .q16 (round .q16 (opnd .q16 a)))

/-- `fract.q16`, op 0x93: `Fract_q16`, 43_kernel_patterns.md R217 (47_q16_arith.md R368). -/
def execFractQ16 (a : Word) (s : State) : Result :=
  deliver s (res .q16 (fract .q16 (opnd .q16 a)))

/-- `mod.q16`, op 0x94: `Mod_q16`, 43_kernel_patterns.md R216 (47_q16_arith.md R369). -/
def execModQ16 (a b : Word) (s : State) : Result :=
  deliver s (res .q16 (mod .q16 (opnd .q16 a) (opnd .q16 b)))

/-- `min.q16`, op 0x95: `Min_q16`, 43_kernel_patterns.md R219 (47_q16_arith.md R370). -/
def execMinQ16 (a b : Word) (s : State) : Result :=
  deliver s (res .q16 (minRaw (opnd .q16 a) (opnd .q16 b)))

/-- `max.q16`, op 0x96: `Max_q16`, 43_kernel_patterns.md R219 (47_q16_arith.md R371). -/
def execMaxQ16 (a b : Word) (s : State) : Result :=
  deliver s (res .q16 (maxRaw (opnd .q16 a) (opnd .q16 b)))

/-- `clamp.q16`, op 0x97: `Clamp_q16`, 43_kernel_patterns.md R219 (47_q16_arith.md R372). -/
def execClampQ16 (a b c : Word) (s : State) : Result :=
  deliver s (res .q16 (clampRaw (opnd .q16 a) (opnd .q16 b) (opnd .q16 c)))

/-- `lerp.q16`, op 0x98: `Lerp_q16`, 43_kernel_patterns.md R220 (47_q16_arith.md R373). -/
def execLerpQ16 (a b c : Word) (s : State) : Result :=
  deliver s (res .q16 (lerp .q16 (opnd .q16 a) (opnd .q16 b) (opnd .q16 c)))

end Sys2Proof.Machine
end

