-- ==== Sys2Proof/Machine/Q16Transcendental.lean ====
section
/-! DEFINITION. The Q16.16 kernel: reciprocal, square root, exponential, logarithm and power (48_q16_transcendental.md R389 to R413). Every instruction reads
its operand words, delivers one response and touches nothing else (R389; 10_state.md R22, R25). -/

namespace Sys2Proof.Machine

/-- `rcp.q16`, op 0xA0: `Rcp_q16`, 43_kernel_patterns.md R200 (48_q16_transcendental.md R390). -/
def execRcpQ16 (a : Word) (s : State) : Result :=
  deliver s (res .q16 (rcp specParams .q16 .default (opnd .q16 a)))

/-- `rcpfast.q16`, op 0xA1: `Rcp_q16`, tier 1, 43_kernel_patterns.md R200 (48_q16_transcendental.md R391). -/
def execRcpfastQ16 (a : Word) (s : State) : Result :=
  deliver s (res .q16 (rcp specParams .q16 .fast (opnd .q16 a)))

/-- `rcpfastest.q16`, op 0xA2: `Rcp_q16`, tier 2, 43_kernel_patterns.md R200 (48_q16_transcendental.md R392). -/
def execRcpfastestQ16 (a : Word) (s : State) : Result :=
  deliver s (res .q16 (rcp specParams .q16 .fastest (opnd .q16 a)))

/-- `sqrt.q16`, op 0xA4: `Sqrt_q16`, 43_kernel_patterns.md R201 (48_q16_transcendental.md R393). -/
def execSqrtQ16 (a : Word) (s : State) : Result :=
  deliver s (res .q16 (sqrt specParams .q16 .default (opnd .q16 a)))

/-- `sqrtfast.q16`, op 0xA5: `Sqrt_q16`, tier 1, 43_kernel_patterns.md R201 (48_q16_transcendental.md R394). -/
def execSqrtfastQ16 (a : Word) (s : State) : Result :=
  deliver s (res .q16 (sqrt specParams .q16 .fast (opnd .q16 a)))

/-- `sqrtfastest.q16`, op 0xA6: `Sqrt_q16`, tier 2, 43_kernel_patterns.md R201 (48_q16_transcendental.md R395). -/
def execSqrtfastestQ16 (a : Word) (s : State) : Result :=
  deliver s (res .q16 (sqrt specParams .q16 .fastest (opnd .q16 a)))

/-- `rsqrt.q16`, op 0xA8: `RSqrt_q16`, 43_kernel_patterns.md R202 (48_q16_transcendental.md R396). -/
def execRsqrtQ16 (a : Word) (s : State) : Result :=
  deliver s (res .q16 (rsqrt specParams .q16 .default (opnd .q16 a)))

/-- `rsqrtfast.q16`, op 0xA9: `RSqrt_q16`, tier 1, 43_kernel_patterns.md R202 (48_q16_transcendental.md R397). -/
def execRsqrtfastQ16 (a : Word) (s : State) : Result :=
  deliver s (res .q16 (rsqrt specParams .q16 .fast (opnd .q16 a)))

/-- `rsqrtfastest.q16`, op 0xAA: `RSqrt_q16`, tier 2, 43_kernel_patterns.md R202 (48_q16_transcendental.md R398). -/
def execRsqrtfastestQ16 (a : Word) (s : State) : Result :=
  deliver s (res .q16 (rsqrt specParams .q16 .fastest (opnd .q16 a)))

/-- `exp.q16`, op 0xB0: `Exp_q16`, 43_kernel_patterns.md R204 (48_q16_transcendental.md R399). -/
def execExpQ16 (a : Word) (s : State) : Result :=
  deliver s (res .q16 (exp specParams .q16 .default (opnd .q16 a)))

/-- `expfast.q16`, op 0xB1: `Exp_q16`, tier 1, 43_kernel_patterns.md R204 (48_q16_transcendental.md R400). -/
def execExpfastQ16 (a : Word) (s : State) : Result :=
  deliver s (res .q16 (exp specParams .q16 .fast (opnd .q16 a)))

/-- `expfastest.q16`, op 0xB2: `Exp_q16`, tier 2, 43_kernel_patterns.md R204 (48_q16_transcendental.md R401). -/
def execExpfastestQ16 (a : Word) (s : State) : Result :=
  deliver s (res .q16 (exp specParams .q16 .fastest (opnd .q16 a)))

/-- `exp2.q16`, op 0xB4: `Exp2_q16`, 43_kernel_patterns.md R203 (48_q16_transcendental.md R402). -/
def execExp2Q16 (a : Word) (s : State) : Result :=
  deliver s (res .q16 (exp2 specParams .q16 .default (opnd .q16 a)))

/-- `exp2fast.q16`, op 0xB5: `Exp2_q16`, tier 1, 43_kernel_patterns.md R203 (48_q16_transcendental.md R403). -/
def execExp2fastQ16 (a : Word) (s : State) : Result :=
  deliver s (res .q16 (exp2 specParams .q16 .fast (opnd .q16 a)))

/-- `exp2fastest.q16`, op 0xB6: `Exp2_q16`, tier 2, 43_kernel_patterns.md R203 (48_q16_transcendental.md R404). -/
def execExp2fastestQ16 (a : Word) (s : State) : Result :=
  deliver s (res .q16 (exp2 specParams .q16 .fastest (opnd .q16 a)))

/-- `log.q16`, op 0xB8: `Log_q16`, 43_kernel_patterns.md R206 (48_q16_transcendental.md R405). -/
def execLogQ16 (a : Word) (s : State) : Result :=
  deliver s (res .q16 (log specParams .q16 .default (opnd .q16 a)))

/-- `logfast.q16`, op 0xB9: `Log_q16`, tier 1, 43_kernel_patterns.md R206 (48_q16_transcendental.md R406). -/
def execLogfastQ16 (a : Word) (s : State) : Result :=
  deliver s (res .q16 (log specParams .q16 .fast (opnd .q16 a)))

/-- `logfastest.q16`, op 0xBA: `Log_q16`, tier 2, 43_kernel_patterns.md R206 (48_q16_transcendental.md R407). -/
def execLogfastestQ16 (a : Word) (s : State) : Result :=
  deliver s (res .q16 (log specParams .q16 .fastest (opnd .q16 a)))

/-- `log2.q16`, op 0xBC: `Log2_q16`, 43_kernel_patterns.md R205 (48_q16_transcendental.md R408). -/
def execLog2Q16 (a : Word) (s : State) : Result :=
  deliver s (res .q16 (log2 specParams .q16 .default (opnd .q16 a)))

/-- `log2fast.q16`, op 0xBD: `Log2_q16`, tier 1, 43_kernel_patterns.md R205 (48_q16_transcendental.md R409). -/
def execLog2fastQ16 (a : Word) (s : State) : Result :=
  deliver s (res .q16 (log2 specParams .q16 .fast (opnd .q16 a)))

/-- `log2fastest.q16`, op 0xBE: `Log2_q16`, tier 2, 43_kernel_patterns.md R205 (48_q16_transcendental.md R410). -/
def execLog2fastestQ16 (a : Word) (s : State) : Result :=
  deliver s (res .q16 (log2 specParams .q16 .fastest (opnd .q16 a)))

/-- `pow.q16`, op 0xC0: `Pow_q16`, 43_kernel_patterns.md R207 (48_q16_transcendental.md R411). -/
def execPowQ16 (a b : Word) (s : State) : Result :=
  deliver s (res .q16 (pow specParams .q16 .default (opnd .q16 a) (opnd .q16 b)))

/-- `powfast.q16`, op 0xC1: `Pow_q16`, tier 1, 43_kernel_patterns.md R207 (48_q16_transcendental.md R412). -/
def execPowfastQ16 (a b : Word) (s : State) : Result :=
  deliver s (res .q16 (pow specParams .q16 .fast (opnd .q16 a) (opnd .q16 b)))

/-- `powfastest.q16`, op 0xC2: `Pow_q16`, tier 2, 43_kernel_patterns.md R207 (48_q16_transcendental.md R413). -/
def execPowfastestQ16 (a b : Word) (s : State) : Result :=
  deliver s (res .q16 (pow specParams .q16 .fastest (opnd .q16 a) (opnd .q16 b)))

end Sys2Proof.Machine
end

