-- ==== Sys2Proof/Machine/Q16Trig.lean ====
section
/-! DEFINITION. The Q16.16 kernel: trigonometric (49_q16_trig.md R429 to R450). Every instruction reads
its operand words, delivers one response and touches nothing else (R429; 10_state.md R22, R25). -/

namespace Sys2Proof.Machine

/-- `sin.q16`, op 0xC4: `Sin_q16`, 43_kernel_patterns.md R209 (49_q16_trig.md R430). -/
def execSinQ16 (a : Word) (s : State) : Result :=
  deliver s (res .q16 (sin specParams .q16 .default (opnd .q16 a)))

/-- `sinfast.q16`, op 0xC5: `Sin_q16`, tier 1, 43_kernel_patterns.md R209 (49_q16_trig.md R431). -/
def execSinfastQ16 (a : Word) (s : State) : Result :=
  deliver s (res .q16 (sin specParams .q16 .fast (opnd .q16 a)))

/-- `sinfastest.q16`, op 0xC6: `Sin_q16`, tier 2, 43_kernel_patterns.md R209 (49_q16_trig.md R432). -/
def execSinfastestQ16 (a : Word) (s : State) : Result :=
  deliver s (res .q16 (sin specParams .q16 .fastest (opnd .q16 a)))

/-- `cos.q16`, op 0xC8: `Cos_q16`, 43_kernel_patterns.md R210 (49_q16_trig.md R433). -/
def execCosQ16 (a : Word) (s : State) : Result :=
  deliver s (res .q16 (cos specParams .q16 .default (opnd .q16 a)))

/-- `cosfast.q16`, op 0xC9: `Cos_q16`, tier 1, 43_kernel_patterns.md R210 (49_q16_trig.md R434). -/
def execCosfastQ16 (a : Word) (s : State) : Result :=
  deliver s (res .q16 (cos specParams .q16 .fast (opnd .q16 a)))

/-- `cosfastest.q16`, op 0xCA: `Cos_q16`, tier 2, 43_kernel_patterns.md R210 (49_q16_trig.md R435). -/
def execCosfastestQ16 (a : Word) (s : State) : Result :=
  deliver s (res .q16 (cos specParams .q16 .fastest (opnd .q16 a)))

/-- `tan.q16`, op 0xCC: `Tan_q16`, 43_kernel_patterns.md R211 (49_q16_trig.md R436). -/
def execTanQ16 (a : Word) (s : State) : Result :=
  deliver s (res .q16 (tan specParams .q16 .default (opnd .q16 a)))

/-- `tanfast.q16`, op 0xCD: `Tan_q16`, tier 1, 43_kernel_patterns.md R211 (49_q16_trig.md R437). -/
def execTanfastQ16 (a : Word) (s : State) : Result :=
  deliver s (res .q16 (tan specParams .q16 .fast (opnd .q16 a)))

/-- `tanfastest.q16`, op 0xCE: `Tan_q16`, tier 2, 43_kernel_patterns.md R211 (49_q16_trig.md R438). -/
def execTanfastestQ16 (a : Word) (s : State) : Result :=
  deliver s (res .q16 (tan specParams .q16 .fastest (opnd .q16 a)))

/-- `asin.q16`, op 0xD0: `Asin_q16`, 43_kernel_patterns.md R215 (49_q16_trig.md R439). -/
def execAsinQ16 (a : Word) (s : State) : Result :=
  deliver s (res .q16 (asin specParams .q16 .default (opnd .q16 a)))

/-- `asinfast.q16`, op 0xD1: `Asin_q16`, tier 1, 43_kernel_patterns.md R215 (49_q16_trig.md R440). -/
def execAsinfastQ16 (a : Word) (s : State) : Result :=
  deliver s (res .q16 (asin specParams .q16 .fast (opnd .q16 a)))

/-- `asinfastest.q16`, op 0xD2: `Asin_q16`, tier 2, 43_kernel_patterns.md R215 (49_q16_trig.md R441). -/
def execAsinfastestQ16 (a : Word) (s : State) : Result :=
  deliver s (res .q16 (asin specParams .q16 .fastest (opnd .q16 a)))

/-- `acos.q16`, op 0xD4: `Acos_q16`, 43_kernel_patterns.md R215 (49_q16_trig.md R442). -/
def execAcosQ16 (a : Word) (s : State) : Result :=
  deliver s (res .q16 (acos specParams .q16 .default (opnd .q16 a)))

/-- `acosfast.q16`, op 0xD5: `Acos_q16`, tier 1, 43_kernel_patterns.md R215 (49_q16_trig.md R443). -/
def execAcosfastQ16 (a : Word) (s : State) : Result :=
  deliver s (res .q16 (acos specParams .q16 .fast (opnd .q16 a)))

/-- `acosfastest.q16`, op 0xD6: `Acos_q16`, tier 2, 43_kernel_patterns.md R215 (49_q16_trig.md R444). -/
def execAcosfastestQ16 (a : Word) (s : State) : Result :=
  deliver s (res .q16 (acos specParams .q16 .fastest (opnd .q16 a)))

/-- `atan.q16`, op 0xD8: `Atan_q16`, 43_kernel_patterns.md R213 (49_q16_trig.md R445). -/
def execAtanQ16 (a : Word) (s : State) : Result :=
  deliver s (res .q16 (atan specParams .q16 .default (opnd .q16 a)))

/-- `atanfast.q16`, op 0xD9: `Atan_q16`, tier 1, 43_kernel_patterns.md R213 (49_q16_trig.md R446). -/
def execAtanfastQ16 (a : Word) (s : State) : Result :=
  deliver s (res .q16 (atan specParams .q16 .fast (opnd .q16 a)))

/-- `atanfastest.q16`, op 0xDA: `Atan_q16`, tier 2, 43_kernel_patterns.md R213 (49_q16_trig.md R447). -/
def execAtanfastestQ16 (a : Word) (s : State) : Result :=
  deliver s (res .q16 (atan specParams .q16 .fastest (opnd .q16 a)))

/-- `atan2.q16`, op 0xDC: `Atan2_q16`, 43_kernel_patterns.md R212 (49_q16_trig.md R448). -/
def execAtan2Q16 (a b : Word) (s : State) : Result :=
  deliver s (res .q16 (atan2 specParams .q16 .default (opnd .q16 a) (opnd .q16 b)))

/-- `atan2fast.q16`, op 0xDD: `Atan2_q16`, tier 1, 43_kernel_patterns.md R212 (49_q16_trig.md R449). -/
def execAtan2fastQ16 (a b : Word) (s : State) : Result :=
  deliver s (res .q16 (atan2 specParams .q16 .fast (opnd .q16 a) (opnd .q16 b)))

/-- `atan2fastest.q16`, op 0xDE: `Atan2_q16`, tier 2, 43_kernel_patterns.md R212 (49_q16_trig.md R450). -/
def execAtan2fastestQ16 (a b : Word) (s : State) : Result :=
  deliver s (res .q16 (atan2 specParams .q16 .fastest (opnd .q16 a) (opnd .q16 b)))

end Sys2Proof.Machine
end

