-- ==== Sys2Proof/Machine/Q32Arith.lean ====
section
/-! DEFINITION. The Q32.32 kernel: conversion, arithmetic, rounding and utility (44_q32_arith.md R239 to R263). Every instruction reads
its operand words, delivers one response and touches nothing else (R239; 10_state.md R22, R25). -/

namespace Sys2Proof.Machine

/-- `fromint.q32`, op 0x00: `FromInt_q32`, 43_kernel_patterns.md R221 (44_q32_arith.md R240). -/
def execFromintQ32 (a : Word) (s : State) : Result :=
  deliver s (res .q32 (fromInt .q32 (opndInt32 a)))

/-- `fromfloat.q32`, op 0x01: `FromFloat_q32`, 43_kernel_patterns.md R197 (44_q32_arith.md R241). -/
def execFromfloatQ32 (a : Word) (s : State) : Result :=
  deliver s (res .q32 (fromFP .q32 .binary32 (opndFloat .binary32 a)))

/-- `fromdouble.q32`, op 0x02: `FromDouble_q32`, 43_kernel_patterns.md R197 (44_q32_arith.md R242). -/
def execFromdoubleQ32 (a : Word) (s : State) : Result :=
  deliver s (res .q32 (fromFP .q32 .binary64 (opndFloat .binary64 a)))

/-- `todouble.q32`, op 0x03: `ToDouble_q32`, 43_kernel_patterns.md R198 (44_q32_arith.md R243). -/
def execTodoubleQ32 (a : Word) (s : State) : Result :=
  deliver s (resBits (toFP .q32 .binary64 (opnd .q32 a)))

/-- `tofloat.q32`, op 0x04: `ToFloat_q32`, 43_kernel_patterns.md R198 (44_q32_arith.md R244). -/
def execTofloatQ32 (a : Word) (s : State) : Result :=
  deliver s (resBits (toFP .q32 .binary32 (opnd .q32 a)))

/-- `floortoint.q32`, op 0x05: `FloorToInt_q32`, 43_kernel_patterns.md R218 (44_q32_arith.md R245). -/
def execFloortointQ32 (a : Word) (s : State) : Result :=
  deliver s (resInt32 (floorToInt .q32 (opnd .q32 a)))

/-- `ceiltoint.q32`, op 0x06: `CeilToInt_q32`, 43_kernel_patterns.md R218 (44_q32_arith.md R246). -/
def execCeiltointQ32 (a : Word) (s : State) : Result :=
  deliver s (resInt32 (ceilToInt .q32 (opnd .q32 a)))

/-- `roundtoint.q32`, op 0x07: `RoundToInt_q32`, 43_kernel_patterns.md R218 (44_q32_arith.md R247). -/
def execRoundtointQ32 (a : Word) (s : State) : Result :=
  deliver s (resInt32 (roundToInt .q32 (opnd .q32 a)))

/-- `add.q32`, op 0x08: `Add_q32`, 43_kernel_patterns.md R222 (44_q32_arith.md R248). -/
def execAddQ32 (a b : Word) (s : State) : Result :=
  deliver s (res .q32 (add .q32 (opnd .q32 a) (opnd .q32 b)))

/-- `sub.q32`, op 0x09: `Sub_q32`, 43_kernel_patterns.md R222 (44_q32_arith.md R249). -/
def execSubQ32 (a b : Word) (s : State) : Result :=
  deliver s (res .q32 (sub .q32 (opnd .q32 a) (opnd .q32 b)))

/-- `mul.q32`, op 0x0A: `Mul_q32`, 43_kernel_patterns.md R194 (44_q32_arith.md R250). -/
def execMulQ32 (a b : Word) (s : State) : Result :=
  deliver s (res .q32 (mul .q32 (opnd .q32 a) (opnd .q32 b)))

/-- `div.q32`, op 0x0C: `Div_q32`, 43_kernel_patterns.md R199 (44_q32_arith.md R251). -/
def execDivQ32 (a b : Word) (s : State) : Result :=
  deliver s (res .q32 (divApprox specParams .q32 .default (opnd .q32 a) (opnd .q32 b)))

/-- `divfast.q32`, op 0x0D: `Div_q32`, tier 1, 43_kernel_patterns.md R199 (44_q32_arith.md R252). -/
def execDivfastQ32 (a b : Word) (s : State) : Result :=
  deliver s (res .q32 (divApprox specParams .q32 .fast (opnd .q32 a) (opnd .q32 b)))

/-- `divfastest.q32`, op 0x0E: `Div_q32`, tier 2, 43_kernel_patterns.md R199 (44_q32_arith.md R253). -/
def execDivfastestQ32 (a b : Word) (s : State) : Result :=
  deliver s (res .q32 (divApprox specParams .q32 .fastest (opnd .q32 a) (opnd .q32 b)))

/-- `divprecise.q32`, op 0x0F: `DivPrecise_q32`, 43_kernel_patterns.md R195 (44_q32_arith.md R254). -/
def execDivpreciseQ32 (a b : Word) (s : State) : Result :=
  deliver s (res .q32 (divPrecise .q32 (opnd .q32 a) (opnd .q32 b)))

/-- `ceil.q32`, op 0x10: `Ceil_q32`, 43_kernel_patterns.md R217 (44_q32_arith.md R255). -/
def execCeilQ32 (a : Word) (s : State) : Result :=
  deliver s (res .q32 (ceil .q32 (opnd .q32 a)))

/-- `floor.q32`, op 0x11: `Floor_q32`, 43_kernel_patterns.md R217 (44_q32_arith.md R256). -/
def execFloorQ32 (a : Word) (s : State) : Result :=
  deliver s (res .q32 (floor .q32 (opnd .q32 a)))

/-- `round.q32`, op 0x12: `Round_q32`, 43_kernel_patterns.md R217 (44_q32_arith.md R257). -/
def execRoundQ32 (a : Word) (s : State) : Result :=
  deliver s (res .q32 (round .q32 (opnd .q32 a)))

/-- `fract.q32`, op 0x13: `Fract_q32`, 43_kernel_patterns.md R217 (44_q32_arith.md R258). -/
def execFractQ32 (a : Word) (s : State) : Result :=
  deliver s (res .q32 (fract .q32 (opnd .q32 a)))

/-- `mod.q32`, op 0x14: `Mod_q32`, 43_kernel_patterns.md R216 (44_q32_arith.md R259). -/
def execModQ32 (a b : Word) (s : State) : Result :=
  deliver s (res .q32 (mod .q32 (opnd .q32 a) (opnd .q32 b)))

/-- `min.q32`, op 0x15: `Min_q32`, 43_kernel_patterns.md R219 (44_q32_arith.md R260). -/
def execMinQ32 (a b : Word) (s : State) : Result :=
  deliver s (res .q32 (minRaw (opnd .q32 a) (opnd .q32 b)))

/-- `max.q32`, op 0x16: `Max_q32`, 43_kernel_patterns.md R219 (44_q32_arith.md R261). -/
def execMaxQ32 (a b : Word) (s : State) : Result :=
  deliver s (res .q32 (maxRaw (opnd .q32 a) (opnd .q32 b)))

/-- `clamp.q32`, op 0x17: `Clamp_q32`, 43_kernel_patterns.md R219 (44_q32_arith.md R262). -/
def execClampQ32 (a b c : Word) (s : State) : Result :=
  deliver s (res .q32 (clampRaw (opnd .q32 a) (opnd .q32 b) (opnd .q32 c)))

/-- `lerp.q32`, op 0x18: `Lerp_q32`, 43_kernel_patterns.md R220 (44_q32_arith.md R263). -/
def execLerpQ32 (a b c : Word) (s : State) : Result :=
  deliver s (res .q32 (lerp .q32 (opnd .q32 a) (opnd .q32 b) (opnd .q32 c)))

end Sys2Proof.Machine
end

