-- ==== Sys2Proof/Machine/Q32Transcendental.lean ====
section
/-! DEFINITION. The Q32.32 kernel: reciprocal, square root, exponential, logarithm and power (45_q32_transcendental.md R279 to R303). Every instruction reads
its operand words, delivers one response and touches nothing else (R279; 10_state.md R22, R25). -/

namespace Sys2Proof.Machine

/-- `rcp.q32`, op 0x20: `Rcp_q32`, 43_kernel_patterns.md R200 (45_q32_transcendental.md R280). -/
def execRcpQ32 (a : Word) (s : State) : Result :=
  deliver s (res .q32 (rcp specParams .q32 .default (opnd .q32 a)))

/-- `rcpfast.q32`, op 0x21: `Rcp_q32`, tier 1, 43_kernel_patterns.md R200 (45_q32_transcendental.md R281). -/
def execRcpfastQ32 (a : Word) (s : State) : Result :=
  deliver s (res .q32 (rcp specParams .q32 .fast (opnd .q32 a)))

/-- `rcpfastest.q32`, op 0x22: `Rcp_q32`, tier 2, 43_kernel_patterns.md R200 (45_q32_transcendental.md R282). -/
def execRcpfastestQ32 (a : Word) (s : State) : Result :=
  deliver s (res .q32 (rcp specParams .q32 .fastest (opnd .q32 a)))

/-- `sqrt.q32`, op 0x24: `Sqrt_q32`, 43_kernel_patterns.md R201 (45_q32_transcendental.md R283). -/
def execSqrtQ32 (a : Word) (s : State) : Result :=
  deliver s (res .q32 (sqrt specParams .q32 .default (opnd .q32 a)))

/-- `sqrtfast.q32`, op 0x25: `Sqrt_q32`, tier 1, 43_kernel_patterns.md R201 (45_q32_transcendental.md R284). -/
def execSqrtfastQ32 (a : Word) (s : State) : Result :=
  deliver s (res .q32 (sqrt specParams .q32 .fast (opnd .q32 a)))

/-- `sqrtfastest.q32`, op 0x26: `Sqrt_q32`, tier 2, 43_kernel_patterns.md R201 (45_q32_transcendental.md R285). -/
def execSqrtfastestQ32 (a : Word) (s : State) : Result :=
  deliver s (res .q32 (sqrt specParams .q32 .fastest (opnd .q32 a)))

/-- `rsqrt.q32`, op 0x28: `RSqrt_q32`, 43_kernel_patterns.md R202 (45_q32_transcendental.md R286). -/
def execRsqrtQ32 (a : Word) (s : State) : Result :=
  deliver s (res .q32 (rsqrt specParams .q32 .default (opnd .q32 a)))

/-- `rsqrtfast.q32`, op 0x29: `RSqrt_q32`, tier 1, 43_kernel_patterns.md R202 (45_q32_transcendental.md R287). -/
def execRsqrtfastQ32 (a : Word) (s : State) : Result :=
  deliver s (res .q32 (rsqrt specParams .q32 .fast (opnd .q32 a)))

/-- `rsqrtfastest.q32`, op 0x2A: `RSqrt_q32`, tier 2, 43_kernel_patterns.md R202 (45_q32_transcendental.md R288). -/
def execRsqrtfastestQ32 (a : Word) (s : State) : Result :=
  deliver s (res .q32 (rsqrt specParams .q32 .fastest (opnd .q32 a)))

/-- `exp.q32`, op 0x30: `Exp_q32`, 43_kernel_patterns.md R204 (45_q32_transcendental.md R289). -/
def execExpQ32 (a : Word) (s : State) : Result :=
  deliver s (res .q32 (exp specParams .q32 .default (opnd .q32 a)))

/-- `expfast.q32`, op 0x31: `Exp_q32`, tier 1, 43_kernel_patterns.md R204 (45_q32_transcendental.md R290). -/
def execExpfastQ32 (a : Word) (s : State) : Result :=
  deliver s (res .q32 (exp specParams .q32 .fast (opnd .q32 a)))

/-- `expfastest.q32`, op 0x32: `Exp_q32`, tier 2, 43_kernel_patterns.md R204 (45_q32_transcendental.md R291). -/
def execExpfastestQ32 (a : Word) (s : State) : Result :=
  deliver s (res .q32 (exp specParams .q32 .fastest (opnd .q32 a)))

/-- `exp2.q32`, op 0x34: `Exp2_q32`, 43_kernel_patterns.md R203 (45_q32_transcendental.md R292). -/
def execExp2Q32 (a : Word) (s : State) : Result :=
  deliver s (res .q32 (exp2 specParams .q32 .default (opnd .q32 a)))

/-- `exp2fast.q32`, op 0x35: `Exp2_q32`, tier 1, 43_kernel_patterns.md R203 (45_q32_transcendental.md R293). -/
def execExp2fastQ32 (a : Word) (s : State) : Result :=
  deliver s (res .q32 (exp2 specParams .q32 .fast (opnd .q32 a)))

/-- `exp2fastest.q32`, op 0x36: `Exp2_q32`, tier 2, 43_kernel_patterns.md R203 (45_q32_transcendental.md R294). -/
def execExp2fastestQ32 (a : Word) (s : State) : Result :=
  deliver s (res .q32 (exp2 specParams .q32 .fastest (opnd .q32 a)))

/-- `log.q32`, op 0x38: `Log_q32`, 43_kernel_patterns.md R206 (45_q32_transcendental.md R295). -/
def execLogQ32 (a : Word) (s : State) : Result :=
  deliver s (res .q32 (log specParams .q32 .default (opnd .q32 a)))

/-- `logfast.q32`, op 0x39: `Log_q32`, tier 1, 43_kernel_patterns.md R206 (45_q32_transcendental.md R296). -/
def execLogfastQ32 (a : Word) (s : State) : Result :=
  deliver s (res .q32 (log specParams .q32 .fast (opnd .q32 a)))

/-- `logfastest.q32`, op 0x3A: `Log_q32`, tier 2, 43_kernel_patterns.md R206 (45_q32_transcendental.md R297). -/
def execLogfastestQ32 (a : Word) (s : State) : Result :=
  deliver s (res .q32 (log specParams .q32 .fastest (opnd .q32 a)))

/-- `log2.q32`, op 0x3C: `Log2_q32`, 43_kernel_patterns.md R205 (45_q32_transcendental.md R298). -/
def execLog2Q32 (a : Word) (s : State) : Result :=
  deliver s (res .q32 (log2 specParams .q32 .default (opnd .q32 a)))

/-- `log2fast.q32`, op 0x3D: `Log2_q32`, tier 1, 43_kernel_patterns.md R205 (45_q32_transcendental.md R299). -/
def execLog2fastQ32 (a : Word) (s : State) : Result :=
  deliver s (res .q32 (log2 specParams .q32 .fast (opnd .q32 a)))

/-- `log2fastest.q32`, op 0x3E: `Log2_q32`, tier 2, 43_kernel_patterns.md R205 (45_q32_transcendental.md R300). -/
def execLog2fastestQ32 (a : Word) (s : State) : Result :=
  deliver s (res .q32 (log2 specParams .q32 .fastest (opnd .q32 a)))

/-- `pow.q32`, op 0x40: `Pow_q32`, 43_kernel_patterns.md R207 (45_q32_transcendental.md R301). -/
def execPowQ32 (a b : Word) (s : State) : Result :=
  deliver s (res .q32 (pow specParams .q32 .default (opnd .q32 a) (opnd .q32 b)))

/-- `powfast.q32`, op 0x41: `Pow_q32`, tier 1, 43_kernel_patterns.md R207 (45_q32_transcendental.md R302). -/
def execPowfastQ32 (a b : Word) (s : State) : Result :=
  deliver s (res .q32 (pow specParams .q32 .fast (opnd .q32 a) (opnd .q32 b)))

/-- `powfastest.q32`, op 0x42: `Pow_q32`, tier 2, 43_kernel_patterns.md R207 (45_q32_transcendental.md R303). -/
def execPowfastestQ32 (a b : Word) (s : State) : Result :=
  deliver s (res .q32 (pow specParams .q32 .fastest (opnd .q32 a) (opnd .q32 b)))

end Sys2Proof.Machine
end

