-- ==== Sys2Proof/Machine/Q32Trig.lean ====
section
/-! DEFINITION. The Q32.32 kernel: trigonometric (46_q32_trig.md R319 to R340). Every instruction reads
its operand words, delivers one response and touches nothing else (R319; 10_state.md R22, R25). -/

namespace Sys2Proof.Machine

/-- `sin.q32`, op 0x44: `Sin_q32`, 43_kernel_patterns.md R209 (46_q32_trig.md R320). -/
def execSinQ32 (a : Word) (s : State) : Result :=
  deliver s (res .q32 (sin specParams .q32 .default (opnd .q32 a)))

/-- `sinfast.q32`, op 0x45: `Sin_q32`, tier 1, 43_kernel_patterns.md R209 (46_q32_trig.md R321). -/
def execSinfastQ32 (a : Word) (s : State) : Result :=
  deliver s (res .q32 (sin specParams .q32 .fast (opnd .q32 a)))

/-- `sinfastest.q32`, op 0x46: `Sin_q32`, tier 2, 43_kernel_patterns.md R209 (46_q32_trig.md R322). -/
def execSinfastestQ32 (a : Word) (s : State) : Result :=
  deliver s (res .q32 (sin specParams .q32 .fastest (opnd .q32 a)))

/-- `cos.q32`, op 0x48: `Cos_q32`, 43_kernel_patterns.md R210 (46_q32_trig.md R323). -/
def execCosQ32 (a : Word) (s : State) : Result :=
  deliver s (res .q32 (cos specParams .q32 .default (opnd .q32 a)))

/-- `cosfast.q32`, op 0x49: `Cos_q32`, tier 1, 43_kernel_patterns.md R210 (46_q32_trig.md R324). -/
def execCosfastQ32 (a : Word) (s : State) : Result :=
  deliver s (res .q32 (cos specParams .q32 .fast (opnd .q32 a)))

/-- `cosfastest.q32`, op 0x4A: `Cos_q32`, tier 2, 43_kernel_patterns.md R210 (46_q32_trig.md R325). -/
def execCosfastestQ32 (a : Word) (s : State) : Result :=
  deliver s (res .q32 (cos specParams .q32 .fastest (opnd .q32 a)))

/-- `tan.q32`, op 0x4C: `Tan_q32`, 43_kernel_patterns.md R211 (46_q32_trig.md R326). -/
def execTanQ32 (a : Word) (s : State) : Result :=
  deliver s (res .q32 (tan specParams .q32 .default (opnd .q32 a)))

/-- `tanfast.q32`, op 0x4D: `Tan_q32`, tier 1, 43_kernel_patterns.md R211 (46_q32_trig.md R327). -/
def execTanfastQ32 (a : Word) (s : State) : Result :=
  deliver s (res .q32 (tan specParams .q32 .fast (opnd .q32 a)))

/-- `tanfastest.q32`, op 0x4E: `Tan_q32`, tier 2, 43_kernel_patterns.md R211 (46_q32_trig.md R328). -/
def execTanfastestQ32 (a : Word) (s : State) : Result :=
  deliver s (res .q32 (tan specParams .q32 .fastest (opnd .q32 a)))

/-- `asin.q32`, op 0x50: `Asin_q32`, 43_kernel_patterns.md R214 (46_q32_trig.md R329). -/
def execAsinQ32 (a : Word) (s : State) : Result :=
  deliver s (res .q32 (asin specParams .q32 .default (opnd .q32 a)))

/-- `asinfast.q32`, op 0x51: `Asin_q32`, tier 1, 43_kernel_patterns.md R214 (46_q32_trig.md R330). -/
def execAsinfastQ32 (a : Word) (s : State) : Result :=
  deliver s (res .q32 (asin specParams .q32 .fast (opnd .q32 a)))

/-- `asinfastest.q32`, op 0x52: `Asin_q32`, tier 2, 43_kernel_patterns.md R214 (46_q32_trig.md R331). -/
def execAsinfastestQ32 (a : Word) (s : State) : Result :=
  deliver s (res .q32 (asin specParams .q32 .fastest (opnd .q32 a)))

/-- `acos.q32`, op 0x54: `Acos_q32`, 43_kernel_patterns.md R214 (46_q32_trig.md R332). -/
def execAcosQ32 (a : Word) (s : State) : Result :=
  deliver s (res .q32 (acos specParams .q32 .default (opnd .q32 a)))

/-- `acosfast.q32`, op 0x55: `Acos_q32`, tier 1, 43_kernel_patterns.md R214 (46_q32_trig.md R333). -/
def execAcosfastQ32 (a : Word) (s : State) : Result :=
  deliver s (res .q32 (acos specParams .q32 .fast (opnd .q32 a)))

/-- `acosfastest.q32`, op 0x56: `Acos_q32`, tier 2, 43_kernel_patterns.md R214 (46_q32_trig.md R334). -/
def execAcosfastestQ32 (a : Word) (s : State) : Result :=
  deliver s (res .q32 (acos specParams .q32 .fastest (opnd .q32 a)))

/-- `atan.q32`, op 0x58: `Atan_q32`, 43_kernel_patterns.md R213 (46_q32_trig.md R335). -/
def execAtanQ32 (a : Word) (s : State) : Result :=
  deliver s (res .q32 (atan specParams .q32 .default (opnd .q32 a)))

/-- `atanfast.q32`, op 0x59: `Atan_q32`, tier 1, 43_kernel_patterns.md R213 (46_q32_trig.md R336). -/
def execAtanfastQ32 (a : Word) (s : State) : Result :=
  deliver s (res .q32 (atan specParams .q32 .fast (opnd .q32 a)))

/-- `atanfastest.q32`, op 0x5A: `Atan_q32`, tier 2, 43_kernel_patterns.md R213 (46_q32_trig.md R337). -/
def execAtanfastestQ32 (a : Word) (s : State) : Result :=
  deliver s (res .q32 (atan specParams .q32 .fastest (opnd .q32 a)))

/-- `atan2.q32`, op 0x5C: `Atan2_q32`, 43_kernel_patterns.md R212 (46_q32_trig.md R338). -/
def execAtan2Q32 (a b : Word) (s : State) : Result :=
  deliver s (res .q32 (atan2 specParams .q32 .default (opnd .q32 a) (opnd .q32 b)))

/-- `atan2fast.q32`, op 0x5D: `Atan2_q32`, tier 1, 43_kernel_patterns.md R212 (46_q32_trig.md R339). -/
def execAtan2fastQ32 (a b : Word) (s : State) : Result :=
  deliver s (res .q32 (atan2 specParams .q32 .fast (opnd .q32 a) (opnd .q32 b)))

/-- `atan2fastest.q32`, op 0x5E: `Atan2_q32`, tier 2, 43_kernel_patterns.md R212 (46_q32_trig.md R340). -/
def execAtan2fastestQ32 (a b : Word) (s : State) : Result :=
  deliver s (res .q32 (atan2 specParams .q32 .fastest (opnd .q32 a) (opnd .q32 b)))

end Sys2Proof.Machine
end

