-- ==== Sys2Proof/Machine/Dispatch.lean ====
section
/-! DEFINITION. The dispatch: one arm for each instruction, one direct call of its meaning (30_encoding.md R65). -/

namespace Sys2Proof.Machine

/-- `Exec` of an assigned opcode: the response of the instruction is delivered (10_state.md R22). -/
def exec (i : Instr) (s : State) : Host.Outcome State Fault Refusal :=
  match i with
  | .fromintQ32 a => Sys2Proof.Machine.execFromintQ32 a s
  | .fromfloatQ32 a => Sys2Proof.Machine.execFromfloatQ32 a s
  | .fromdoubleQ32 a => Sys2Proof.Machine.execFromdoubleQ32 a s
  | .todoubleQ32 a => Sys2Proof.Machine.execTodoubleQ32 a s
  | .tofloatQ32 a => Sys2Proof.Machine.execTofloatQ32 a s
  | .floortointQ32 a => Sys2Proof.Machine.execFloortointQ32 a s
  | .ceiltointQ32 a => Sys2Proof.Machine.execCeiltointQ32 a s
  | .roundtointQ32 a => Sys2Proof.Machine.execRoundtointQ32 a s
  | .addQ32 a b => Sys2Proof.Machine.execAddQ32 a b s
  | .subQ32 a b => Sys2Proof.Machine.execSubQ32 a b s
  | .mulQ32 a b => Sys2Proof.Machine.execMulQ32 a b s
  | .divQ32 a b => Sys2Proof.Machine.execDivQ32 a b s
  | .divfastQ32 a b => Sys2Proof.Machine.execDivfastQ32 a b s
  | .divfastestQ32 a b => Sys2Proof.Machine.execDivfastestQ32 a b s
  | .divpreciseQ32 a b => Sys2Proof.Machine.execDivpreciseQ32 a b s
  | .ceilQ32 a => Sys2Proof.Machine.execCeilQ32 a s
  | .floorQ32 a => Sys2Proof.Machine.execFloorQ32 a s
  | .roundQ32 a => Sys2Proof.Machine.execRoundQ32 a s
  | .fractQ32 a => Sys2Proof.Machine.execFractQ32 a s
  | .modQ32 a b => Sys2Proof.Machine.execModQ32 a b s
  | .minQ32 a b => Sys2Proof.Machine.execMinQ32 a b s
  | .maxQ32 a b => Sys2Proof.Machine.execMaxQ32 a b s
  | .clampQ32 a b c => Sys2Proof.Machine.execClampQ32 a b c s
  | .lerpQ32 a b c => Sys2Proof.Machine.execLerpQ32 a b c s
  | .rcpQ32 a => Sys2Proof.Machine.execRcpQ32 a s
  | .rcpfastQ32 a => Sys2Proof.Machine.execRcpfastQ32 a s
  | .rcpfastestQ32 a => Sys2Proof.Machine.execRcpfastestQ32 a s
  | .sqrtQ32 a => Sys2Proof.Machine.execSqrtQ32 a s
  | .sqrtfastQ32 a => Sys2Proof.Machine.execSqrtfastQ32 a s
  | .sqrtfastestQ32 a => Sys2Proof.Machine.execSqrtfastestQ32 a s
  | .rsqrtQ32 a => Sys2Proof.Machine.execRsqrtQ32 a s
  | .rsqrtfastQ32 a => Sys2Proof.Machine.execRsqrtfastQ32 a s
  | .rsqrtfastestQ32 a => Sys2Proof.Machine.execRsqrtfastestQ32 a s
  | .expQ32 a => Sys2Proof.Machine.execExpQ32 a s
  | .expfastQ32 a => Sys2Proof.Machine.execExpfastQ32 a s
  | .expfastestQ32 a => Sys2Proof.Machine.execExpfastestQ32 a s
  | .exp2Q32 a => Sys2Proof.Machine.execExp2Q32 a s
  | .exp2fastQ32 a => Sys2Proof.Machine.execExp2fastQ32 a s
  | .exp2fastestQ32 a => Sys2Proof.Machine.execExp2fastestQ32 a s
  | .logQ32 a => Sys2Proof.Machine.execLogQ32 a s
  | .logfastQ32 a => Sys2Proof.Machine.execLogfastQ32 a s
  | .logfastestQ32 a => Sys2Proof.Machine.execLogfastestQ32 a s
  | .log2Q32 a => Sys2Proof.Machine.execLog2Q32 a s
  | .log2fastQ32 a => Sys2Proof.Machine.execLog2fastQ32 a s
  | .log2fastestQ32 a => Sys2Proof.Machine.execLog2fastestQ32 a s
  | .powQ32 a b => Sys2Proof.Machine.execPowQ32 a b s
  | .powfastQ32 a b => Sys2Proof.Machine.execPowfastQ32 a b s
  | .powfastestQ32 a b => Sys2Proof.Machine.execPowfastestQ32 a b s
  | .sinQ32 a => Sys2Proof.Machine.execSinQ32 a s
  | .sinfastQ32 a => Sys2Proof.Machine.execSinfastQ32 a s
  | .sinfastestQ32 a => Sys2Proof.Machine.execSinfastestQ32 a s
  | .cosQ32 a => Sys2Proof.Machine.execCosQ32 a s
  | .cosfastQ32 a => Sys2Proof.Machine.execCosfastQ32 a s
  | .cosfastestQ32 a => Sys2Proof.Machine.execCosfastestQ32 a s
  | .tanQ32 a => Sys2Proof.Machine.execTanQ32 a s
  | .tanfastQ32 a => Sys2Proof.Machine.execTanfastQ32 a s
  | .tanfastestQ32 a => Sys2Proof.Machine.execTanfastestQ32 a s
  | .asinQ32 a => Sys2Proof.Machine.execAsinQ32 a s
  | .asinfastQ32 a => Sys2Proof.Machine.execAsinfastQ32 a s
  | .asinfastestQ32 a => Sys2Proof.Machine.execAsinfastestQ32 a s
  | .acosQ32 a => Sys2Proof.Machine.execAcosQ32 a s
  | .acosfastQ32 a => Sys2Proof.Machine.execAcosfastQ32 a s
  | .acosfastestQ32 a => Sys2Proof.Machine.execAcosfastestQ32 a s
  | .atanQ32 a => Sys2Proof.Machine.execAtanQ32 a s
  | .atanfastQ32 a => Sys2Proof.Machine.execAtanfastQ32 a s
  | .atanfastestQ32 a => Sys2Proof.Machine.execAtanfastestQ32 a s
  | .atan2Q32 a b => Sys2Proof.Machine.execAtan2Q32 a b s
  | .atan2fastQ32 a b => Sys2Proof.Machine.execAtan2fastQ32 a b s
  | .atan2fastestQ32 a b => Sys2Proof.Machine.execAtan2fastestQ32 a b s
  | .clzW32 a => Sys2Proof.Machine.execClzW32 a s
  | .clzW64 a => Sys2Proof.Machine.execClzW64 a s
  | .shrW32 a b => Sys2Proof.Machine.execShrW32 a b s
  | .shrW64 a b => Sys2Proof.Machine.execShrW64 a b s
  | .lshrW64 a b => Sys2Proof.Machine.execLshrW64 a b s
  | .qmul30 a b => Sys2Proof.Machine.execQmul30 a b s
  | .fromintQ16 a => Sys2Proof.Machine.execFromintQ16 a s
  | .fromfloatQ16 a => Sys2Proof.Machine.execFromfloatQ16 a s
  | .fromdoubleQ16 a => Sys2Proof.Machine.execFromdoubleQ16 a s
  | .todoubleQ16 a => Sys2Proof.Machine.execTodoubleQ16 a s
  | .tofloatQ16 a => Sys2Proof.Machine.execTofloatQ16 a s
  | .floortointQ16 a => Sys2Proof.Machine.execFloortointQ16 a s
  | .ceiltointQ16 a => Sys2Proof.Machine.execCeiltointQ16 a s
  | .roundtointQ16 a => Sys2Proof.Machine.execRoundtointQ16 a s
  | .addQ16 a b => Sys2Proof.Machine.execAddQ16 a b s
  | .subQ16 a b => Sys2Proof.Machine.execSubQ16 a b s
  | .mulQ16 a b => Sys2Proof.Machine.execMulQ16 a b s
  | .divQ16 a b => Sys2Proof.Machine.execDivQ16 a b s
  | .divfastQ16 a b => Sys2Proof.Machine.execDivfastQ16 a b s
  | .divfastestQ16 a b => Sys2Proof.Machine.execDivfastestQ16 a b s
  | .divpreciseQ16 a b => Sys2Proof.Machine.execDivpreciseQ16 a b s
  | .ceilQ16 a => Sys2Proof.Machine.execCeilQ16 a s
  | .floorQ16 a => Sys2Proof.Machine.execFloorQ16 a s
  | .roundQ16 a => Sys2Proof.Machine.execRoundQ16 a s
  | .fractQ16 a => Sys2Proof.Machine.execFractQ16 a s
  | .modQ16 a b => Sys2Proof.Machine.execModQ16 a b s
  | .minQ16 a b => Sys2Proof.Machine.execMinQ16 a b s
  | .maxQ16 a b => Sys2Proof.Machine.execMaxQ16 a b s
  | .clampQ16 a b c => Sys2Proof.Machine.execClampQ16 a b c s
  | .lerpQ16 a b c => Sys2Proof.Machine.execLerpQ16 a b c s
  | .rcpQ16 a => Sys2Proof.Machine.execRcpQ16 a s
  | .rcpfastQ16 a => Sys2Proof.Machine.execRcpfastQ16 a s
  | .rcpfastestQ16 a => Sys2Proof.Machine.execRcpfastestQ16 a s
  | .sqrtQ16 a => Sys2Proof.Machine.execSqrtQ16 a s
  | .sqrtfastQ16 a => Sys2Proof.Machine.execSqrtfastQ16 a s
  | .sqrtfastestQ16 a => Sys2Proof.Machine.execSqrtfastestQ16 a s
  | .rsqrtQ16 a => Sys2Proof.Machine.execRsqrtQ16 a s
  | .rsqrtfastQ16 a => Sys2Proof.Machine.execRsqrtfastQ16 a s
  | .rsqrtfastestQ16 a => Sys2Proof.Machine.execRsqrtfastestQ16 a s
  | .expQ16 a => Sys2Proof.Machine.execExpQ16 a s
  | .expfastQ16 a => Sys2Proof.Machine.execExpfastQ16 a s
  | .expfastestQ16 a => Sys2Proof.Machine.execExpfastestQ16 a s
  | .exp2Q16 a => Sys2Proof.Machine.execExp2Q16 a s
  | .exp2fastQ16 a => Sys2Proof.Machine.execExp2fastQ16 a s
  | .exp2fastestQ16 a => Sys2Proof.Machine.execExp2fastestQ16 a s
  | .logQ16 a => Sys2Proof.Machine.execLogQ16 a s
  | .logfastQ16 a => Sys2Proof.Machine.execLogfastQ16 a s
  | .logfastestQ16 a => Sys2Proof.Machine.execLogfastestQ16 a s
  | .log2Q16 a => Sys2Proof.Machine.execLog2Q16 a s
  | .log2fastQ16 a => Sys2Proof.Machine.execLog2fastQ16 a s
  | .log2fastestQ16 a => Sys2Proof.Machine.execLog2fastestQ16 a s
  | .powQ16 a b => Sys2Proof.Machine.execPowQ16 a b s
  | .powfastQ16 a b => Sys2Proof.Machine.execPowfastQ16 a b s
  | .powfastestQ16 a b => Sys2Proof.Machine.execPowfastestQ16 a b s
  | .sinQ16 a => Sys2Proof.Machine.execSinQ16 a s
  | .sinfastQ16 a => Sys2Proof.Machine.execSinfastQ16 a s
  | .sinfastestQ16 a => Sys2Proof.Machine.execSinfastestQ16 a s
  | .cosQ16 a => Sys2Proof.Machine.execCosQ16 a s
  | .cosfastQ16 a => Sys2Proof.Machine.execCosfastQ16 a s
  | .cosfastestQ16 a => Sys2Proof.Machine.execCosfastestQ16 a s
  | .tanQ16 a => Sys2Proof.Machine.execTanQ16 a s
  | .tanfastQ16 a => Sys2Proof.Machine.execTanfastQ16 a s
  | .tanfastestQ16 a => Sys2Proof.Machine.execTanfastestQ16 a s
  | .asinQ16 a => Sys2Proof.Machine.execAsinQ16 a s
  | .asinfastQ16 a => Sys2Proof.Machine.execAsinfastQ16 a s
  | .asinfastestQ16 a => Sys2Proof.Machine.execAsinfastestQ16 a s
  | .acosQ16 a => Sys2Proof.Machine.execAcosQ16 a s
  | .acosfastQ16 a => Sys2Proof.Machine.execAcosfastQ16 a s
  | .acosfastestQ16 a => Sys2Proof.Machine.execAcosfastestQ16 a s
  | .atanQ16 a => Sys2Proof.Machine.execAtanQ16 a s
  | .atanfastQ16 a => Sys2Proof.Machine.execAtanfastQ16 a s
  | .atanfastestQ16 a => Sys2Proof.Machine.execAtanfastestQ16 a s
  | .atan2Q16 a b => Sys2Proof.Machine.execAtan2Q16 a b s
  | .atan2fastQ16 a b => Sys2Proof.Machine.execAtan2fastQ16 a b s
  | .atan2fastestQ16 a b => Sys2Proof.Machine.execAtan2fastestQ16 a b s
  | .rcpP4l8 a => Sys2Proof.Machine.execRcpP4l8 a s
  | .rcpP6 a => Sys2Proof.Machine.execRcpP6 a s
  | .rcpP4 a => Sys2Proof.Machine.execRcpP4 a s
  | .sqrtP3l8 a => Sys2Proof.Machine.execSqrtP3l8 a s
  | .sqrtP4 a => Sys2Proof.Machine.execSqrtP4 a s
  | .sqrtP3 a => Sys2Proof.Machine.execSqrtP3 a s
  | .rsqrtP3l16 a => Sys2Proof.Machine.execRsqrtP3l16 a s
  | .rsqrtP5 a => Sys2Proof.Machine.execRsqrtP5 a s
  | .rsqrtP3 a => Sys2Proof.Machine.execRsqrtP3 a s
  | .log2P5l8 a => Sys2Proof.Machine.execLog2P5l8 a s
  | .log2P3l8 a => Sys2Proof.Machine.execLog2P3l8 a s
  | .log2P5 a => Sys2Proof.Machine.execLog2P5 a s
  | .exp2P5 a => Sys2Proof.Machine.execExp2P5 a s
  | .exp2P4 a => Sys2Proof.Machine.execExp2P4 a s
  | .exp2P3 a => Sys2Proof.Machine.execExp2P3 a s
  | .usinP4 a => Sys2Proof.Machine.execUsinP4 a s
  | .usinP3 a => Sys2Proof.Machine.execUsinP3 a s
  | .usinP2 a => Sys2Proof.Machine.execUsinP2 a s
  | .atanP5l8 a => Sys2Proof.Machine.execAtanP5l8 a s
  | .atanP3l8 a => Sys2Proof.Machine.execAtanP3l8 a s
  | .atanP4 a => Sys2Proof.Machine.execAtanP4 a s

end Sys2Proof.Machine
end

