-- ==== Sys2Proof/Machine/Respond.lean ====
section
/-! DEFINITION. The answer to one command: `R = Exec(op, A, B, C)` for an assigned opcode, 0 for a reserved one
(10_state.md R22; 30_encoding.md R67). -/

namespace Sys2Proof.Machine

/-- A command with a reserved opcode does not trap and does not hang: its response is 0, and no operand is read
(30_encoding.md R67; 60_exceptions.md R460). [DESIGN CHOICE: notes/assumptions/6.md] -/
def respondReserved (s : State) : Result := deliver s 0

/-- The one response to a command (10_state.md R22). -/
def respondTo (cmd : Command) (s : State) : Result :=
  match decode cmd with
  | .ok i    => exec i s
  | .error _ => respondReserved s

end Sys2Proof.Machine
end

