-- ==== Sys2Proof/Machine/Step.lean ====
section
/-! DEFINITION. The step of the machine: the oldest command in flight is answered (10_state.md R22). -/

namespace Sys2Proof.Machine

/-- One step: the oldest command in flight leaves the unit's input and its response joins the pending ones; while no command
is in flight nothing changes. [DESIGN CHOICE: notes/assumptions/2.md] -/
def step (s : State) : Host.Outcome State Fault Refusal :=
  match s.takeCommand with
  | none          => .next s
  | some (cmd, t) => respondTo cmd t

/-- `s` with the command of a table word put where the next step takes its command from: before all others in flight.
It stands for the host issuing that command to an idle unit. [DESIGN CHOICE: notes/assumptions/3.md] -/
def State.withFetchWord (s : State) (nbits w : Nat) : State :=
  { s with inFlight := tableCommand nbits w :: s.inFlight }

end Sys2Proof.Machine
end

