-- ==== Sys2Proof/Safety.lean ====
section
/-! DEFINITION. The terms in which claims about FixPointCS CORE are stated: the responses of commands, the readings of
operand and result words as numbers, and reference forms of the arithmetic that do not use the machine's own functions
(rational floor, 64-bit product datapath, floating-point values). A safe run answers every command, in order, and each
answer is that of its command alone (10_state.md R22, 20_memory.md R47). -/

namespace Sys2Proof.Machine

/-! ## Responses -/

/-- The state `s` with one more response `w` pending, behind the others, and nothing else changed. -/
def State.answered (s : State) (w : Word) : State := { s with responses := s.responses ++ [w] }

/-- The response to a command that is alone in a unit just reset. -/
def soloAnswer (cmd : Command) : Word :=
  match step { inFlight := [cmd], responses := [] } with
  | .next t    => t.responses.headD 0
  | .fault _   => 0
  | .refused _ => 0

/-- The response of an instruction run in a unit just reset. -/
def answerOf (i : Instr) : Word :=
  match exec i State.reset with
  | .next t    => t.responses.headD 0
  | .fault _   => 0
  | .refused _ => 0

/-- What the host has been answered or will be: the pending responses, then the answers of the commands in flight, each as
if it were alone. -/
def ledger (s : State) : List Word := s.responses ++ s.inFlight.map soloAnswer

/-- The ledger of a state is `L`. -/
def LedgerIs (L : List Word) (s : State) : Prop := ledger s = L

/-- The 91 reserved opcode values, as 30_encoding.md R67 lists them. -/
def reservedOpcodes : List Nat :=
  [0x0B, 0x19, 0x1A, 0x1B, 0x1C, 0x1D, 0x1E, 0x1F, 0x23, 0x27, 0x2B, 0x2C, 0x2D, 0x2E,
   0x2F, 0x33, 0x37, 0x3B, 0x3F, 0x43, 0x47, 0x4B, 0x4F, 0x53, 0x57, 0x5B, 0x5F,
   0x66, 0x67, 0x68, 0x69, 0x6A, 0x6B, 0x6C, 0x6D, 0x6E, 0x6F, 0x70, 0x71, 0x72, 0x73,
   0x74, 0x75, 0x76, 0x77, 0x78, 0x79, 0x7A, 0x7B, 0x7C, 0x7D, 0x7E, 0x7F,
   0x8B, 0x99, 0x9A, 0x9B, 0x9C, 0x9D, 0x9E, 0x9F, 0xA3, 0xA7, 0xAB, 0xAC, 0xAD, 0xAE,
   0xAF, 0xB3, 0xB7, 0xBB, 0xBF, 0xC3, 0xC7, 0xCB, 0xCF, 0xD3, 0xD7, 0xDB, 0xDF,
   0xE3, 0xE7, 0xEB, 0xEF, 0xF3, 0xF7, 0xFB, 0xFC, 0xFD, 0xFE, 0xFF]

/-- The opcodes that read no more than the low half of each operand word: the Q16.16 kernel but for `fromdouble.q16`, the
evaluators, and the shared or Q32.32 operations on an `int`, a binary32 pattern or a 32-bit word (30_encoding.md R63). -/
def readsLowHalves (op : Opcode) : Prop :=
  (0x80 ≤ op.toNat ∧ op.toNat ≠ 0x82) ∨ op.toNat ∈ [0x00, 0x01, 0x60, 0x62, 0x65]

/-- The opcodes whose result is a 32-bit signed word, delivered sign-extended: the Q16.16 kernel but for `todouble.q16` and
`tofloat.q16`, the evaluators, the `int` results of the Q32.32 kernel, `shr.w32` and `qmul30` (30_encoding.md R64). -/
def answersSigned32 (op : Opcode) : Prop :=
  (0x80 ≤ op.toNat ∧ op.toNat ≠ 0x83 ∧ op.toNat ≠ 0x84) ∨ op.toNat ∈ [0x05, 0x06, 0x07, 0x62, 0x65]

/-! ## Words as numbers -/

/-- The raw value an operand word has for a kernel (30_encoding.md R63). -/
def rawValue (K : Kernel) (x : Word) : Int :=
  match K with
  | .q32 => x.toInt
  | .q16 => (x.extractLsb' 0 32).toInt

/-- The result word of a raw value of a kernel, reduced to the kernel's width (30_encoding.md R64). -/
def rawWord (K : Kernel) (r : Int) : Word :=
  match K with
  | .q32 => BitVec.ofInt 64 r
  | .q16 => (BitVec.ofInt 32 r).signExtend 64

/-- `floor(v * 2^e)`, for any sign of `e`: what `SHR(v, -e)` is (00_scope.md R11). -/
def floorScaled (v e : Int) : Int := ⌊(v : ℚ) * 2 ^ e⌋

/-- `trunc(q)`: rounded toward zero (00_scope.md R11). -/
def truncRat (q : ℚ) : Int := if 0 ≤ q then ⌊q⌋ else ⌈q⌉

/-- Rounded to the nearest integer, ties to the even one (43_kernel_patterns.md R198). -/
def roundEven (q : ℚ) : Int :=
  if q - ⌊q⌋ < 1 / 2 then ⌊q⌋
  else if 1 / 2 < q - ⌊q⌋ then ⌊q⌋ + 1
  else if ⌊q⌋ % 2 = 0 then ⌊q⌋ else ⌊q⌋ + 1

/-- The mantissa fraction of a positive magnitude, Q2.30: the magnitude over the power of two of its top set bit, less one,
low bits dropped (40_bit_primitives.md R108). -/
def mantissaFrac (m : Nat) : Nat := m * 2 ^ 30 / 2 ^ m.log2 - 2 ^ 30

/-- The operand word of the mantissa fraction. -/
def mantissaWord (m : Nat) : Word := BitVec.ofNat 64 (mantissaFrac m)

/-- The exponent of the value a positive raw magnitude represents (43_kernel_patterns.md R191). -/
def valueExp (K : Kernel) (m : Nat) : Int := (m.log2 : Int) - K.frac

/-- The operand word of 1.0 (43_kernel_patterns.md R191). -/
def oneWord (K : Kernel) : Word := rawWord K (2 ^ K.frac)

/-! ## Floating-point patterns -/

/-- The exponent field of a pattern in the low bits of a word (43_kernel_patterns.md R196). -/
def patternExp (fmt : FloatFormat) (w : Word) : Nat := w.toNat / 2 ^ fmt.fracBits % 2 ^ fmt.expBits

/-- The sign bit of a pattern (43_kernel_patterns.md R196). -/
def patternSign (fmt : FloatFormat) (w : Word) : Nat := w.toNat / 2 ^ (fmt.expBits + fmt.fracBits) % 2

/-- The value of a finite pattern (43_kernel_patterns.md R196). -/
def patternValue (fmt : FloatFormat) (w : Word) : ℚ :=
  (if patternSign fmt w = 1 then -1 else 1) *
    ((w.toNat % 2 ^ fmt.fracBits + if patternExp fmt w = 0 then 0 else 2 ^ fmt.fracBits : Nat) : ℚ) *
    2 ^ ((max (patternExp fmt w) 1 : Nat) - (fmt.bias : Int) - fmt.fracBits)

/-! ## The Q2.30 datapath -/

/-- One step of the Q2.30 datapath: the 64-bit product of two 32-bit words, shifted right arithmetically by 30, its low 32
bits added to `c` (41_poly_engine.md R122, R124). -/
def mulAdd30 (a y c : BitVec 32) : BitVec 32 :=
  ((a.signExtend 64 * y.signExtend 64).sshiftRight 30).setWidth 32 + c

/-- A chain of such steps, highest power first (41_poly_engine.md R124). -/
def hornerWords (a : BitVec 32) (coeffs : Poly) : BitVec 32 :=
  coeffs.foldr (fun c y => mulAdd30 a y (BitVec.ofInt 32 c)) 0

/-- The datapath of a table evaluator: the top `bits` bits of the 30-bit fraction select the row, the others are the argument
(41_poly_engine.md R126). -/
def lutWords (bits : Nat) (k : BitVec 32) (table : LutTable) : BitVec 32 :=
  hornerWords ((k.extractLsb' 0 (30 - bits)).setWidth 32) (table.getD (k.extractLsb' (30 - bits) bits).toNat [])

/-- The mirror of the unit-sine evaluator on the phase word (41_poly_engine.md R128). -/
def foldWord (z : BitVec 32) : BitVec 32 :=
  if z.getLsbD 31 = z.getLsbD 30 then z else 0x80000000#32 - z

/-- The datapath of a unit-sine evaluator (41_poly_engine.md R128). -/
def usinWords (z : BitVec 32) (coeffs : Poly) : BitVec 32 :=
  let z := foldWord z
  mulAdd30 (hornerWords (mulAdd30 z z 0) coeffs) z 0

/-! ## The instructions of a kernel and of a tier -/

/-- `add` of a kernel. -/
def addInstr (K : Kernel) (a b : Word) : Instr :=
  match K with
  | .q32 => .addQ32 a b
  | .q16 => .addQ16 a b

/-- `sub` of a kernel. -/
def subInstr (K : Kernel) (a b : Word) : Instr :=
  match K with
  | .q32 => .subQ32 a b
  | .q16 => .subQ16 a b

/-- `mul` of a kernel. -/
def mulInstr (K : Kernel) (a b : Word) : Instr :=
  match K with
  | .q32 => .mulQ32 a b
  | .q16 => .mulQ16 a b

/-- `divprecise` of a kernel. -/
def divpreciseInstr (K : Kernel) (a b : Word) : Instr :=
  match K with
  | .q32 => .divpreciseQ32 a b
  | .q16 => .divpreciseQ16 a b

/-- `mod` of a kernel. -/
def modInstr (K : Kernel) (a b : Word) : Instr :=
  match K with
  | .q32 => .modQ32 a b
  | .q16 => .modQ16 a b

/-- `fromint` of a kernel. -/
def fromintInstr (K : Kernel) (a : Word) : Instr :=
  match K with
  | .q32 => .fromintQ32 a
  | .q16 => .fromintQ16 a

/-- `floortoint` of a kernel. -/
def floortointInstr (K : Kernel) (a : Word) : Instr :=
  match K with
  | .q32 => .floortointQ32 a
  | .q16 => .floortointQ16 a

/-- `ceiltoint` of a kernel. -/
def ceiltointInstr (K : Kernel) (a : Word) : Instr :=
  match K with
  | .q32 => .ceiltointQ32 a
  | .q16 => .ceiltointQ16 a

/-- `roundtoint` of a kernel. -/
def roundtointInstr (K : Kernel) (a : Word) : Instr :=
  match K with
  | .q32 => .roundtointQ32 a
  | .q16 => .roundtointQ16 a

/-- `floor` of a kernel. -/
def floorInstr (K : Kernel) (a : Word) : Instr :=
  match K with
  | .q32 => .floorQ32 a
  | .q16 => .floorQ16 a

/-- `ceil` of a kernel. -/
def ceilInstr (K : Kernel) (a : Word) : Instr :=
  match K with
  | .q32 => .ceilQ32 a
  | .q16 => .ceilQ16 a

/-- `round` of a kernel. -/
def roundInstr (K : Kernel) (a : Word) : Instr :=
  match K with
  | .q32 => .roundQ32 a
  | .q16 => .roundQ16 a

/-- `fract` of a kernel. -/
def fractInstr (K : Kernel) (a : Word) : Instr :=
  match K with
  | .q32 => .fractQ32 a
  | .q16 => .fractQ16 a

/-- `min` of a kernel. -/
def minInstr (K : Kernel) (a b : Word) : Instr :=
  match K with
  | .q32 => .minQ32 a b
  | .q16 => .minQ16 a b

/-- `max` of a kernel. -/
def maxInstr (K : Kernel) (a b : Word) : Instr :=
  match K with
  | .q32 => .maxQ32 a b
  | .q16 => .maxQ16 a b

/-- `clamp` of a kernel. -/
def clampInstr (K : Kernel) (a b c : Word) : Instr :=
  match K with
  | .q32 => .clampQ32 a b c
  | .q16 => .clampQ16 a b c

/-- `lerp` of a kernel. -/
def lerpInstr (K : Kernel) (a b c : Word) : Instr :=
  match K with
  | .q32 => .lerpQ32 a b c
  | .q16 => .lerpQ16 a b c

/-- `fromfloat` or `fromdouble` of a kernel. -/
def fromfpInstr (K : Kernel) (fmt : FloatFormat) (a : Word) : Instr :=
  match K, fmt with
  | .q32, .binary32 => .fromfloatQ32 a
  | .q32, .binary64 => .fromdoubleQ32 a
  | .q16, .binary32 => .fromfloatQ16 a
  | .q16, .binary64 => .fromdoubleQ16 a

/-- `tofloat` or `todouble` of a kernel. -/
def tofpInstr (K : Kernel) (fmt : FloatFormat) (a : Word) : Instr :=
  match K, fmt with
  | .q32, .binary32 => .tofloatQ32 a
  | .q32, .binary64 => .todoubleQ32 a
  | .q16, .binary32 => .tofloatQ16 a
  | .q16, .binary64 => .todoubleQ16 a

/-- The `div` operation of a kernel and a tier. -/
def divInstr (K : Kernel) (t : Tier) (a b : Word) : Instr :=
  match K, t with
  | .q32, .default => .divQ32 a b
  | .q32, .fast    => .divfastQ32 a b
  | .q32, .fastest => .divfastestQ32 a b
  | .q16, .default => .divQ16 a b
  | .q16, .fast    => .divfastQ16 a b
  | .q16, .fastest => .divfastestQ16 a b

/-- The `rcp` operation of a kernel and a tier. -/
def rcpInstr (K : Kernel) (t : Tier) (a : Word) : Instr :=
  match K, t with
  | .q32, .default => .rcpQ32 a
  | .q32, .fast    => .rcpfastQ32 a
  | .q32, .fastest => .rcpfastestQ32 a
  | .q16, .default => .rcpQ16 a
  | .q16, .fast    => .rcpfastQ16 a
  | .q16, .fastest => .rcpfastestQ16 a

/-- The `sqrt` operation of a kernel and a tier. -/
def sqrtInstr (K : Kernel) (t : Tier) (a : Word) : Instr :=
  match K, t with
  | .q32, .default => .sqrtQ32 a
  | .q32, .fast    => .sqrtfastQ32 a
  | .q32, .fastest => .sqrtfastestQ32 a
  | .q16, .default => .sqrtQ16 a
  | .q16, .fast    => .sqrtfastQ16 a
  | .q16, .fastest => .sqrtfastestQ16 a

/-- The `rsqrt` operation of a kernel and a tier. -/
def rsqrtInstr (K : Kernel) (t : Tier) (a : Word) : Instr :=
  match K, t with
  | .q32, .default => .rsqrtQ32 a
  | .q32, .fast    => .rsqrtfastQ32 a
  | .q32, .fastest => .rsqrtfastestQ32 a
  | .q16, .default => .rsqrtQ16 a
  | .q16, .fast    => .rsqrtfastQ16 a
  | .q16, .fastest => .rsqrtfastestQ16 a

/-- The `exp` operation of a kernel and a tier. -/
def expInstr (K : Kernel) (t : Tier) (a : Word) : Instr :=
  match K, t with
  | .q32, .default => .expQ32 a
  | .q32, .fast    => .expfastQ32 a
  | .q32, .fastest => .expfastestQ32 a
  | .q16, .default => .expQ16 a
  | .q16, .fast    => .expfastQ16 a
  | .q16, .fastest => .expfastestQ16 a

/-- The `exp2` operation of a kernel and a tier. -/
def exp2Instr (K : Kernel) (t : Tier) (a : Word) : Instr :=
  match K, t with
  | .q32, .default => .exp2Q32 a
  | .q32, .fast    => .exp2fastQ32 a
  | .q32, .fastest => .exp2fastestQ32 a
  | .q16, .default => .exp2Q16 a
  | .q16, .fast    => .exp2fastQ16 a
  | .q16, .fastest => .exp2fastestQ16 a

/-- The `log` operation of a kernel and a tier. -/
def logInstr (K : Kernel) (t : Tier) (a : Word) : Instr :=
  match K, t with
  | .q32, .default => .logQ32 a
  | .q32, .fast    => .logfastQ32 a
  | .q32, .fastest => .logfastestQ32 a
  | .q16, .default => .logQ16 a
  | .q16, .fast    => .logfastQ16 a
  | .q16, .fastest => .logfastestQ16 a

/-- The `log2` operation of a kernel and a tier. -/
def log2Instr (K : Kernel) (t : Tier) (a : Word) : Instr :=
  match K, t with
  | .q32, .default => .log2Q32 a
  | .q32, .fast    => .log2fastQ32 a
  | .q32, .fastest => .log2fastestQ32 a
  | .q16, .default => .log2Q16 a
  | .q16, .fast    => .log2fastQ16 a
  | .q16, .fastest => .log2fastestQ16 a

/-- The `pow` operation of a kernel and a tier. -/
def powInstr (K : Kernel) (t : Tier) (a b : Word) : Instr :=
  match K, t with
  | .q32, .default => .powQ32 a b
  | .q32, .fast    => .powfastQ32 a b
  | .q32, .fastest => .powfastestQ32 a b
  | .q16, .default => .powQ16 a b
  | .q16, .fast    => .powfastQ16 a b
  | .q16, .fastest => .powfastestQ16 a b

/-- The `sin` operation of a kernel and a tier. -/
def sinInstr (K : Kernel) (t : Tier) (a : Word) : Instr :=
  match K, t with
  | .q32, .default => .sinQ32 a
  | .q32, .fast    => .sinfastQ32 a
  | .q32, .fastest => .sinfastestQ32 a
  | .q16, .default => .sinQ16 a
  | .q16, .fast    => .sinfastQ16 a
  | .q16, .fastest => .sinfastestQ16 a

/-- The `cos` operation of a kernel and a tier. -/
def cosInstr (K : Kernel) (t : Tier) (a : Word) : Instr :=
  match K, t with
  | .q32, .default => .cosQ32 a
  | .q32, .fast    => .cosfastQ32 a
  | .q32, .fastest => .cosfastestQ32 a
  | .q16, .default => .cosQ16 a
  | .q16, .fast    => .cosfastQ16 a
  | .q16, .fastest => .cosfastestQ16 a

/-- The `tan` operation of a kernel and a tier. -/
def tanInstr (K : Kernel) (t : Tier) (a : Word) : Instr :=
  match K, t with
  | .q32, .default => .tanQ32 a
  | .q32, .fast    => .tanfastQ32 a
  | .q32, .fastest => .tanfastestQ32 a
  | .q16, .default => .tanQ16 a
  | .q16, .fast    => .tanfastQ16 a
  | .q16, .fastest => .tanfastestQ16 a

/-- The `asin` operation of a kernel and a tier. -/
def asinInstr (K : Kernel) (t : Tier) (a : Word) : Instr :=
  match K, t with
  | .q32, .default => .asinQ32 a
  | .q32, .fast    => .asinfastQ32 a
  | .q32, .fastest => .asinfastestQ32 a
  | .q16, .default => .asinQ16 a
  | .q16, .fast    => .asinfastQ16 a
  | .q16, .fastest => .asinfastestQ16 a

/-- The `acos` operation of a kernel and a tier. -/
def acosInstr (K : Kernel) (t : Tier) (a : Word) : Instr :=
  match K, t with
  | .q32, .default => .acosQ32 a
  | .q32, .fast    => .acosfastQ32 a
  | .q32, .fastest => .acosfastestQ32 a
  | .q16, .default => .acosQ16 a
  | .q16, .fast    => .acosfastQ16 a
  | .q16, .fastest => .acosfastestQ16 a

/-- The `atan` operation of a kernel and a tier. -/
def atanInstr (K : Kernel) (t : Tier) (a : Word) : Instr :=
  match K, t with
  | .q32, .default => .atanQ32 a
  | .q32, .fast    => .atanfastQ32 a
  | .q32, .fastest => .atanfastestQ32 a
  | .q16, .default => .atanQ16 a
  | .q16, .fast    => .atanfastQ16 a
  | .q16, .fastest => .atanfastestQ16 a

/-- The `atan2` operation of a kernel and a tier. -/
def atan2Instr (K : Kernel) (t : Tier) (a b : Word) : Instr :=
  match K, t with
  | .q32, .default => .atan2Q32 a b
  | .q32, .fast    => .atan2fastQ32 a b
  | .q32, .fastest => .atan2fastestQ32 a b
  | .q16, .default => .atan2Q16 a b
  | .q16, .fast    => .atan2fastQ16 a b
  | .q16, .fastest => .atan2fastestQ16 a b

/-- The Reciprocal evaluator a tier uses (41_poly_engine.md R127, 30_encoding.md R66). -/
def rcpEvalInstr (t : Tier) (k : Word) : Instr :=
  match t with
  | .default => .rcpP4l8 k
  | .fast    => .rcpP6 k
  | .fastest => .rcpP4 k

/-- The Sqrt evaluator a tier uses (41_poly_engine.md R127, 30_encoding.md R66). -/
def sqrtEvalInstr (t : Tier) (k : Word) : Instr :=
  match t with
  | .default => .sqrtP3l8 k
  | .fast    => .sqrtP4 k
  | .fastest => .sqrtP3 k

/-- The ReciprocalSqrt evaluator a tier uses (41_poly_engine.md R127, 30_encoding.md R66). -/
def rsqrtEvalInstr (t : Tier) (k : Word) : Instr :=
  match t with
  | .default => .rsqrtP3l16 k
  | .fast    => .rsqrtP5 k
  | .fastest => .rsqrtP3 k

/-- The Log2 evaluator a tier uses (41_poly_engine.md R127, 30_encoding.md R66). -/
def log2EvalInstr (t : Tier) (k : Word) : Instr :=
  match t with
  | .default => .log2P5l8 k
  | .fast    => .log2P3l8 k
  | .fastest => .log2P5 k

/-- The Exp2 evaluator a tier uses (41_poly_engine.md R127, 30_encoding.md R66). -/
def exp2EvalInstr (t : Tier) (k : Word) : Instr :=
  match t with
  | .default => .exp2P5 k
  | .fast    => .exp2P4 k
  | .fastest => .exp2P3 k

/-- The unit-circle-Sine evaluator a tier uses (41_poly_engine.md R127, 30_encoding.md R66). -/
def usinEvalInstr (t : Tier) (k : Word) : Instr :=
  match t with
  | .default => .usinP4 k
  | .fast    => .usinP3 k
  | .fastest => .usinP2 k

/-- The Arctangent-of-ratio evaluator a tier uses (41_poly_engine.md R127, 30_encoding.md R66). -/
def atanEvalInstr (t : Tier) (k : Word) : Instr :=
  match t with
  | .default => .atanP5l8 k
  | .fast    => .atanP3l8 k
  | .fastest => .atanP4 k

/-! ## Operations composed of the answers of others -/

/-- The exponential of an unbounded argument `v`, given in the format of a kernel, through the kernel's `exp2`: the product
with `RCP_LN2` is exact and unwrapped, so it clamps and never aliases (43_kernel_patterns.md R192, R203, R204). -/
def expWord (K : Kernel) (t : Tier) (v : Int) : Word :=
  let u := ⌊((v * (match K with | .q32 => 6196328019 | .q16 => 94548) : Int) : ℚ) / 2 ^ K.frac⌋
  if ((K.width : Int) - K.frac - 1) * 2 ^ K.frac ≤ u then rawWord K (2 ^ (K.width - 1) - 1)
  else if u < -(K.frac : Int) * 2 ^ K.frac then 0
  else answerOf (exp2Instr K t (rawWord K u))

/-- The operand word of the quarter-turn phase of an angle: the low 32 bits of the floored product with `K2PI`
(43_kernel_patterns.md R208, 42_rom_tables.md R182). -/
def phaseWord (K : Kernel) (a : Word) : Word :=
  (BitVec.ofInt 32 ⌊((rawValue K a * 683565276 : Int) : ℚ) / 2 ^ K.frac⌋).signExtend 64

/-- The first-octant angle that `atan2` computes from the smaller and the larger magnitude (43_kernel_patterns.md R212). -/
def octantRaw (K : Kernel) (t : Tier) (num den : Nat) : Int :=
  let oox := (answerOf (rcpEvalInstr t (mantissaWord den))).toInt
  let yr := floorScaled num (30 - (den.log2 : Int))
  let q := min (⌊((yr * oox : Int) : ℚ) / 2 ^ 30⌋) (2 ^ 30)
  floorScaled (answerOf (atanEvalInstr t (BitVec.ofInt 64 q))).toInt ((K.frac : Int) - 30)

/-- The answer of the Q32.32 kernel for `sqrt((One + x)(One - x))`, each step as its own opcode returns it
(43_kernel_patterns.md R214). -/
def arcRootWord (t : Tier) (a : Word) : Word :=
  answerOf (sqrtInstr .q32 t (answerOf (.mulQ32 (answerOf (.addQ32 (oneWord .q32) a)) (answerOf (.subQ32 (oneWord .q32) a)))))

end Sys2Proof.Machine
end

