-- ==== Sys2Proof/Certificates/Slice0/Obligations.lean ====
section
/-! DEFINITION. The statements about the unit, each a proposition for the provers. A response word is stated through the
readings and the reference arithmetic of Safety.lean; `s.answered w` is the state `s` with the one response `w` added and
nothing else changed, so every such equation is the instruction's result, its frame and its completion together. -/

section

open Sys2Proof Sys2Proof.Machine

/-! ## The machine -/

/-- A step answers the oldest command in flight with the instruction it decodes to (10_state.md R22). That commands wait in
a list, oldest first, is the model's choice: notes/assumptions/1.md and 7.md. -/
def Obligations.StepRunsDecodedCommand : Prop :=
  ∀ (s : State) (cmd : Command) (rest : List Command) (i : Instr),
    s.inFlight = cmd :: rest → decode cmd = .ok i → step s = exec i { s with inFlight := rest }

/-- While no command is in flight a step changes nothing: the model's choice, notes/assumptions/2.md. -/
def Obligations.IdleStepChangesNothing : Prop :=
  ∀ s : State, s.inFlight = [] → step s = .next s

/-- The 91 reserved opcode values are answered with 0, whatever the operand words hold (30_encoding.md R67). -/
def Obligations.ReservedOpcodesAnswerZero : Prop :=
  reservedOpcodes.length = 91 ∧
  ∀ (s : State) (cmd : Command) (rest : List Command),
    s.inFlight = cmd :: rest → cmd.op.toNat ∈ reservedOpcodes →
      step s = .next (State.answered { s with inFlight := rest } 0)

/-- Every instruction decodes from the 200-bit word of its command, and that word carries its opcode in bits 199:192
(30_encoding.md R60, R65). -/
def Obligations.DecodeOfEncodedInstruction : Prop :=
  ∀ i : Instr, decodeCmdWord (encodeCmdWord i) = .ok i ∧ (encodeCmdWord i).extractLsb' 192 8 = i.opcode

/-- Decoding rejects exactly the reserved opcodes, by name, and an instruction it reads encodes back to the command's opcode
and the operand words its format reads, the others zero (30_encoding.md R61, R65, R67). -/
def Obligations.DecodeIsExact : Prop :=
  ∀ cmd : Command,
    (cmd.op.toNat ∈ reservedOpcodes ∧ decode cmd = .error (.reservedOpcode cmd.op)) ∨
    (cmd.op.toNat ∉ reservedOpcodes ∧ ∃ (i : Instr) (f : Format),
      decode cmd = .ok i ∧ opcodeFormat cmd.op = some f ∧
      encode i = { op := cmd.op, a := cmd.a, b := if f = .f1 then 0 else cmd.b, c := if f = .f3 then cmd.c else 0 })

/-- Eight command words written out from the field positions of 30_encoding.md R60 and the opcodes of R65, one for each
family, and what they decode to. -/
def Obligations.WrittenOutCommandsDecode : Prop :=
  decodeCmdWord 0x18000000020000000000000004000000000000000040000000#200 =
    .ok (.lerpQ32 0x0000000200000000 0x0000000400000000 0x0000000040000000) ∧
  decodeCmdWord 0x24000000040000000000000000000000000000000000000000#200 = .ok (.sqrtQ32 0x0000000400000000) ∧
  decodeCmdWord 0x5C0000000300000000FFFFFFFC000000000000000000000000#200 =
    .ok (.atan2Q32 0x0000000300000000 0xFFFFFFFC00000000) ∧
  decodeCmdWord 0x630000000000000001FFFFFFFFFFFFFFFC0000000000000000#200 =
    .ok (.shrW64 0x0000000000000001 0xFFFFFFFFFFFFFFFC) ∧
  decodeCmdWord 0x9700000000000500000000000000010000000000000002FFFF#200 =
    .ok (.clampQ16 0x0000000000050000 0x0000000000010000 0x000000000002FFFF) ∧
  decodeCmdWord 0xC0000000000002000000000000000300000000000000000000#200 =
    .ok (.powQ16 0x0000000000020000 0x0000000000030000) ∧
  decodeCmdWord 0xD2000000000000800000000000000000000000000000000000#200 = .ok (.asinfastestQ16 0x0000000000008000) ∧
  decodeCmdWord 0xE0000000001234567800000000000000000000000000000000#200 = .ok (.rcpP4l8 0x0000000012345678)

/-- An operand word the format does not read does not affect the response; a reserved opcode reads none
(10_state.md R23, 30_encoding.md R61). -/
def Obligations.UnreadWordsIgnored : Prop :=
  ∀ (op : Opcode) (a b c a' b' c' : Word) (s : State),
    ((opcodeFormat op).isSome → a = a') →
    (opcodeFormat op = some .f2 ∨ opcodeFormat op = some .f3 → b = b') →
    (opcodeFormat op = some .f3 → c = c') →
      respondTo { op := op, a := a, b := b, c := c } s = respondTo { op := op, a := a', b := b', c := c' } s

/-- The upper half of an operand word is ignored by every opcode that reads a 32-bit operand from it: all operand words of
the opcodes of `readsLowHalves`, and the shift amount of `shr.w64` and `lshr.w64` (30_encoding.md R63). -/
def Obligations.UpperHalvesIgnored : Prop :=
  (∀ (op : Opcode) (a b c a' b' c' : Word) (s : State), readsLowHalves op →
    a.extractLsb' 0 32 = a'.extractLsb' 0 32 → b.extractLsb' 0 32 = b'.extractLsb' 0 32 →
    c.extractLsb' 0 32 = c'.extractLsb' 0 32 →
      respondTo { op := op, a := a, b := b, c := c } s = respondTo { op := op, a := a', b := b', c := c' } s) ∧
  (∀ (a b b' : Word) (s : State), b.extractLsb' 0 32 = b'.extractLsb' 0 32 →
    exec (.shrW64 a b) s = exec (.shrW64 a b') s ∧ exec (.lshrW64 a b) s = exec (.lshrW64 a b') s)

/-- Every instruction answers one word and changes nothing else, and that word is delivered as its result kind says:
sign-extended from 32 bits, a zero-extended binary32 pattern, or a count (10_state.md R22, 30_encoding.md R64). -/
def Obligations.EveryInstructionAnswersInItsResultKind : Prop :=
  ∀ (i : Instr) (s : State), ∃ w : Word, exec i s = .next (s.answered w) ∧
    (answersSigned32 i.opcode → w = (w.extractLsb' 0 32).signExtend 64) ∧
    (i.opcode.toNat ∈ [0x04, 0x84] → w.toNat < 2 ^ 32) ∧
    (i.opcode.toNat = 0x60 → w.toNat ≤ 32) ∧ (i.opcode.toNat = 0x61 → w.toNat ≤ 64)

/-- The response to a command depends on the command alone: not on the commands in flight, not on the responses pending
(10_state.md R22, 20_memory.md R47). -/
def Obligations.ResponseDependsOnCommandAlone : Prop :=
  ∀ cmd : Command, ∃ w : Word, ∀ s : State, respondTo cmd s = .next (s.answered w)

/-- No step raises anything, and a step with a command in flight takes that one command and adds one response
(60_exceptions.md R460, R466; 10_state.md R22). The two lists and the idle step are the model's choice:
notes/assumptions/1.md and 2.md. -/
def Obligations.NoStepStops : Prop :=
  ∀ s : State, ∃ t : State, step s = .next t ∧ t.inFlight = s.inFlight.tail ∧
    s.responses <+: t.responses ∧ t.inFlight.length + t.responses.length = s.inFlight.length + s.responses.length

/-- A run of commands is the list of their responses, each computed alone, in command order (70_reset_and_hazards.md R493). -/
def Obligations.RunAnswersInOrder : Prop :=
  ∀ (cmds rest : List Command) (rs : List Word),
    Host.Core.run Sys2Proof.core cmds.length ({ inFlight := cmds ++ rest, responses := rs } : State) =
      .next ({ inFlight := rest, responses := rs ++ cmds.map soloAnswer } : State)

/-- Invariant: what the host has been answered or will be is fixed when its commands are accepted; no step changes it
(10_state.md R22, 20_memory.md R47). -/
def Obligations.EveryStepKeepsTheLedger : Prop :=
  ∀ (L : List Word) (s t : State), LedgerIs L s → step s = .next t → LedgerIs L t

/-- The ledger is empty at reset, and a command the host issues adds its own answer at the end
(70_reset_and_hazards.md R490, 10_state.md R22). -/
def Obligations.LedgerAtResetAndIssue : Prop :=
  LedgerIs [] State.reset ∧ ∀ (s : State) (cmd : Command), LedgerIs (ledger s ++ [soloAnswer cmd]) (s.issue cmd)

/-- Reset leaves no command in flight and no response pending, from any state (70_reset_and_hazards.md R490,
10_state.md R33). -/
def Obligations.ResetEmptiesTheUnit : Prop :=
  (State.reset.inFlight = [] ∧ State.reset.responses = []) ∧ ∀ s : State, s.resetEvent = State.reset

/-- The host issues a command to a unit just reset, one step answers it, and the host takes the answer; the unit is then as
after reset (10_state.md R20, R21, R22). -/
def Obligations.IssueStepCollect : Prop :=
  ∀ cmd : Command, ∃ t : State,
    step (State.reset.issue cmd) = .next t ∧ t.collect = some (soloAnswer cmd, State.reset)

/-! ## Bit primitives and the quantized multiply -/

/-- `clz.w32` and `clz.w64`: the count `n` with `x < 2^(N-n)` and, but for `x = 0`, `2^(N-1-n) ≤ x` (40_bit_primitives.md
R100 to R102). -/
def Obligations.ClzCountsLeadingZeros : Prop :=
  ∀ (a : Word) (s : State),
    (∃ n : Nat, exec (.clzW32 a) s = .next (s.answered (BitVec.ofNat 64 n)) ∧ n ≤ 32 ∧
      (a.extractLsb' 0 32).toNat < 2 ^ (32 - n) ∧ (n < 32 → 2 ^ (31 - n) ≤ (a.extractLsb' 0 32).toNat)) ∧
    (∃ n : Nat, exec (.clzW64 a) s = .next (s.answered (BitVec.ofNat 64 n)) ∧ n ≤ 64 ∧
      a.toNat < 2 ^ (64 - n) ∧ (n < 64 → 2 ^ (63 - n) ≤ a.toNat))

/-- `shr.w32` and `shr.w64`: arithmetic right shift by a non-negative amount, left shift by the magnitude of a negative one,
for every 32-bit signed amount (40_bit_primitives.md R103 to R105). -/
def Obligations.ShiftRightIsDirectionAware : Prop :=
  ∀ (a b : Word) (s : State),
    exec (.shrW32 a b) s = .next (s.answered (BitVec.signExtend 64
      (let x := a.extractLsb' 0 32
       let n := (b.extractLsb' 0 32).toInt
       if 0 ≤ n then x.sshiftRight n.toNat else x <<< (-n).toNat))) ∧
    exec (.shrW64 a b) s = .next (s.answered
      (let n := (b.extractLsb' 0 32).toInt
       if 0 ≤ n then a.sshiftRight n.toNat else a <<< (-n).toNat))

/-- `lshr.w64`: zero-filling right shift, left shift for a negative amount, for every 32-bit signed amount
(40_bit_primitives.md R106, R107). -/
def Obligations.LogicalShiftFillsWithZeros : Prop :=
  ∀ (a b : Word) (s : State),
    exec (.lshrW64 a b) s = .next (s.answered
      (let n := (b.extractLsb' 0 32).toInt
       if 0 ≤ n then a >>> n.toNat else a <<< (-n).toNat))

/-- `qmul30`: the 64-bit product of the two 32-bit words, shifted right arithmetically by 30, its low 32 bits sign-extended
(41_poly_engine.md R122, R123). -/
def Obligations.Qmul30IsTheShiftedProduct : Prop :=
  ∀ (a b : Word) (s : State),
    exec (.qmul30 a b) s = .next (s.answered
      (((((a.extractLsb' 0 32).signExtend 64 * (b.extractLsb' 0 32).signExtend 64).sshiftRight 30).extractLsb' 0 32).signExtend
        64))

/-! ## The evaluators -/

/-- The ten plain evaluators are Horner chains of the 64-bit datapath over their tables (41_poly_engine.md R124, R125, R131,
R132, R134, R135, R137, R138, R141 to R144). -/
def Obligations.PlainEvaluatorsAreHornerChains : Prop :=
  ∀ (a : Word) (s : State), let k := a.extractLsb' 0 32
    exec (.rcpP6 a) s = .next (s.answered ((hornerWords k specRom.rcpP6).signExtend 64)) ∧
    exec (.rcpP4 a) s = .next (s.answered ((hornerWords k specRom.rcpP4).signExtend 64)) ∧
    exec (.sqrtP4 a) s = .next (s.answered ((hornerWords k specRom.sqrtP4).signExtend 64)) ∧
    exec (.sqrtP3 a) s = .next (s.answered ((hornerWords k specRom.sqrtP3).signExtend 64)) ∧
    exec (.rsqrtP5 a) s = .next (s.answered ((hornerWords k specRom.rsqrtP5).signExtend 64)) ∧
    exec (.rsqrtP3 a) s = .next (s.answered ((hornerWords k specRom.rsqrtP3).signExtend 64)) ∧
    exec (.log2P5 a) s = .next (s.answered ((hornerWords k specRom.log2P5).signExtend 64)) ∧
    exec (.exp2P5 a) s = .next (s.answered ((hornerWords k specRom.exp2P5).signExtend 64)) ∧
    exec (.exp2P4 a) s = .next (s.answered ((hornerWords k specRom.exp2P4).signExtend 64)) ∧
    exec (.exp2P3 a) s = .next (s.answered ((hornerWords k specRom.exp2P3).signExtend 64))

/-- The five table evaluators of rcp, sqrt, rsqrt and log2 select the row by the top bits of the 30-bit fraction and run the
datapath on the remaining bits (41_poly_engine.md R126, R130, R133, R136, R139, R140). -/
def Obligations.TableEvaluatorsSelectTheirRow : Prop :=
  ∀ (a : Word) (s : State), let k := a.extractLsb' 0 32
    exec (.rcpP4l8 a) s = .next (s.answered ((lutWords 3 k specRom.rcpP4l8).signExtend 64)) ∧
    exec (.sqrtP3l8 a) s = .next (s.answered ((lutWords 3 k specRom.sqrtP3l8).signExtend 64)) ∧
    exec (.rsqrtP3l16 a) s = .next (s.answered ((lutWords 4 k specRom.rsqrtP3l16).signExtend 64)) ∧
    exec (.log2P5l8 a) s = .next (s.answered ((lutWords 3 k specRom.log2P5l8).signExtend 64)) ∧
    exec (.log2P3l8 a) s = .next (s.answered ((lutWords 3 k specRom.log2P3l8).signExtend 64))

/-- The three unit-sine evaluators fold the phase word, run the datapath in its square and multiply by it
(41_poly_engine.md R128, R145 to R147). -/
def Obligations.UnitSineEvaluators : Prop :=
  ∀ (a : Word) (s : State), let z := a.extractLsb' 0 32
    exec (.usinP4 a) s = .next (s.answered ((usinWords z specRom.usinP4).signExtend 64)) ∧
    exec (.usinP3 a) s = .next (s.answered ((usinWords z specRom.usinP3).signExtend 64)) ∧
    exec (.usinP2 a) s = .next (s.answered ((usinWords z specRom.usinP2).signExtend 64))

/-- The three arctangent evaluators: `ATAN_ONE` for a signed operand of at least 1.0, else the table datapath (tiers 0, 1) or
the odd polynomial (tier 2) (41_poly_engine.md R129, R148 to R150; 42_rom_tables.md R182). -/
def Obligations.ArctangentEvaluators : Prop :=
  ∀ (a : Word) (s : State), let k := a.extractLsb' 0 32
    exec (.atanP5l8 a) s = .next (s.answered
      (if 0x40000000 ≤ k.toInt then 843314857 else (lutWords 3 k specRom.atanP5l8).signExtend 64)) ∧
    exec (.atanP3l8 a) s = .next (s.answered
      (if 0x40000000 ≤ k.toInt then 843314857 else (lutWords 3 k specRom.atanP3l8).signExtend 64)) ∧
    exec (.atanP4 a) s = .next (s.answered
      (if 0x40000000 ≤ k.toInt then 843314857
       else (mulAdd30 k (hornerWords (mulAdd30 k k 0) specRom.atanP4) 0).signExtend 64))

/-- The values that hold exactly: the first coefficient at mantissa 1.0, the row's first entry at every segment start of a
table, and the unit sine at the four quarter turns (41_poly_engine.md R152 (a) to (d)). -/
def Obligations.EvaluatorsExactPoints : Prop :=
  ∀ s : State,
    (∀ t : Tier,
      exec (rcpEvalInstr t 0) s = .next (s.answered 0x40000000) ∧
      exec (sqrtEvalInstr t 0) s = .next (s.answered 0x40000000) ∧
      exec (rsqrtEvalInstr t 0) s = .next (s.answered 0x40000000) ∧
      exec (exp2EvalInstr t 0) s = .next (s.answered 0x40000000) ∧
      exec (log2EvalInstr t 0) s = .next (s.answered 0) ∧
      exec (atanEvalInstr t 0) s = .next (s.answered 0) ∧
      exec (usinEvalInstr t 0) s = .next (s.answered 0) ∧
      exec (usinEvalInstr t 0x40000000) s = .next (s.answered 0x40000000) ∧
      exec (usinEvalInstr t 0xC0000000) s = .next (s.answered 0xFFFFFFFFC0000000) ∧
      exec (usinEvalInstr t 0x80000000) s = .next (s.answered 0)) ∧
    (∀ j : Fin 8, let k : Word := BitVec.ofNat 64 (j * 2 ^ 27)
      let start := fun table : LutTable => BitVec.ofInt 64 ((table.getD j []).getD 0 0)
      exec (.rcpP4l8 k) s = .next (s.answered (start specRom.rcpP4l8)) ∧
      exec (.sqrtP3l8 k) s = .next (s.answered (start specRom.sqrtP3l8)) ∧
      exec (.log2P5l8 k) s = .next (s.answered (start specRom.log2P5l8)) ∧
      exec (.log2P3l8 k) s = .next (s.answered (start specRom.log2P3l8)) ∧
      exec (.atanP5l8 k) s = .next (s.answered (start specRom.atanP5l8)) ∧
      exec (.atanP3l8 k) s = .next (s.answered (start specRom.atanP3l8))) ∧
    (∀ j : Fin 16, exec (.rsqrtP3l16 (BitVec.ofNat 64 (j * 2 ^ 26))) s =
      .next (s.answered (BitVec.ofInt 64 ((specRom.rsqrtP3l16.getD j []).getD 0 0))))

/-- The unit sine of a phase word and of its mirror image about a quarter turn are the same word, for every phase word and
every tier: `sin(pi - x) = sin(x)` holds exactly (41_poly_engine.md R128). -/
def Obligations.UnitSineMirrorSymmetry : Prop :=
  ∀ (t : Tier) (z : Word) (s : State),
    exec (usinEvalInstr t (0x80000000 - z)) s = exec (usinEvalInstr t z) s

/-! ## Arithmetic -/

/-- `add` and `sub` of the two kernels are native wraparound addition and subtraction (43_kernel_patterns.md R222). -/
def Obligations.AddAndSubWrap : Prop :=
  ∀ (a b : Word) (s : State),
    exec (.addQ32 a b) s = .next (s.answered (a + b)) ∧
    exec (.subQ32 a b) s = .next (s.answered (a - b)) ∧
    exec (.addQ16 a b) s = .next (s.answered ((a.extractLsb' 0 32 + b.extractLsb' 0 32).signExtend 64)) ∧
    exec (.subQ16 a b) s = .next (s.answered ((a.extractLsb' 0 32 - b.extractLsb' 0 32).signExtend 64))

/-- `mul.q32` and `mul.q16`: the exact product over `2^F`, floored and wrapped; the partial products of the Q32.32 kernel give
the same (43_kernel_patterns.md R194). -/
def Obligations.MulIsTheFlooredProduct : Prop :=
  ∀ (K : Kernel) (a b : Word) (s : State),
    exec (mulInstr K a b) s = .next (s.answered
      (rawWord K ⌊((rawValue K a * rawValue K b : Int) : ℚ) / 2 ^ K.frac⌋))

/-- `divprecise.q32` and `divprecise.q16`: 0 for a divisor 0 or `MinValue`; `MaxValue` where the unsigned quotient does not
fit `W` bits; else the exact quotient truncated toward zero, wrapped (43_kernel_patterns.md R195). -/
def Obligations.DivPreciseTruncates : Prop :=
  ∀ (K : Kernel) (a b : Word) (s : State),
    exec (divpreciseInstr K a b) s = .next (s.answered
      (let x := rawValue K a
       let y := rawValue K b
       if y = 0 ∨ y = -2 ^ (K.width - 1) then 0
       else if (2 : ℚ) ^ K.width ≤ |(x : ℚ) * 2 ^ K.frac / y| then rawWord K (2 ^ (K.width - 1) - 1)
       else rawWord K (truncRat ((x : ℚ) * 2 ^ K.frac / y))))

/-- `mod.q32` and `mod.q16`: 0 for a divisor 0, else the remainder of the truncating division, also at the quotient that
wraps (43_kernel_patterns.md R216). -/
def Obligations.ModIsTheTruncatedRemainder : Prop :=
  ∀ (K : Kernel) (a b : Word) (s : State),
    exec (modInstr K a b) s = .next (s.answered
      (if rawValue K b = 0 then 0 else rawWord K (Int.tmod (rawValue K a) (rawValue K b))))

/-- `div`, `divfast`, `divfastest` of the two kernels: 0 for a divisor 0 or `MinValue`; else the product of the dividend, with
the divisor's sign, and the Reciprocal evaluator's answer for the divisor's mantissa, shifted once
(43_kernel_patterns.md R199). -/
def Obligations.DivMultipliesByTheReciprocal : Prop :=
  ∀ (K : Kernel) (t : Tier) (a b : Word) (s : State),
    exec (divInstr K t a b) s = .next (s.answered
      (let x := rawValue K a
       let y := rawValue K b
       if y = 0 ∨ y = -2 ^ (K.width - 1) then 0
       else
         let r := (answerOf (rcpEvalInstr t (mantissaWord y.natAbs))).toInt
         rawWord K (floorScaled ((if y < 0 then -x else x) * r) (-(30 + valueExp K y.natAbs)))))

/-- Division by a power of two is exact in every tier and both kernels (43_kernel_patterns.md R199). -/
def Obligations.DivByPowerOfTwoIsExact : Prop :=
  ∀ (K : Kernel) (t : Tier) (a : Word) (j : Nat) (s : State), j ≤ K.width - 2 →
    exec (divInstr K t a (rawWord K (2 ^ j))) s =
      .next (s.answered (rawWord K (floorScaled (rawValue K a) ((K.frac : Int) - j))))

/-- `floor`, `ceil`, `round`, `fract` of the two kernels round the represented value: down, up, to nearest with ties up, and
what rounding down leaves; the results wrap (43_kernel_patterns.md R217). -/
def Obligations.RoundingOperations : Prop :=
  ∀ (K : Kernel) (a : Word) (s : State), let v : ℚ := (rawValue K a : ℚ) / 2 ^ K.frac
    exec (floorInstr K a) s = .next (s.answered (rawWord K (⌊v⌋ * 2 ^ K.frac))) ∧
    exec (ceilInstr K a) s = .next (s.answered (rawWord K (⌈v⌉ * 2 ^ K.frac))) ∧
    exec (roundInstr K a) s = .next (s.answered (rawWord K (⌊v + 1 / 2⌋ * 2 ^ K.frac))) ∧
    exec (fractInstr K a) s = .next (s.answered (rawWord K (rawValue K a - ⌊v⌋ * 2 ^ K.frac)))

/-- `floortoint`, `ceiltoint`, `roundtoint` of the two kernels: the rounded value, reduced to the `W - F` integer bits of the
format and sign-extended (43_kernel_patterns.md R218). -/
def Obligations.RoundingToInt : Prop :=
  ∀ (K : Kernel) (a : Word) (s : State), let v : ℚ := (rawValue K a : ℚ) / 2 ^ K.frac
    exec (floortointInstr K a) s = .next (s.answered (BitVec.ofInt 64 ⌊v⌋)) ∧
    exec (ceiltointInstr K a) s = .next (s.answered ((BitVec.ofInt (K.width - K.frac) ⌈v⌉).signExtend 64)) ∧
    exec (roundtointInstr K a) s = .next (s.answered ((BitVec.ofInt (K.width - K.frac) ⌊v + 1 / 2⌋).signExtend 64))

/-- `min`, `max`, `clamp` of the two kernels: signed comparisons; the result is one of the operands, bit for bit in its
kernel's word; the upper bound of `clamp` is tested first (43_kernel_patterns.md R219). -/
def Obligations.MinMaxClampSelectAnOperand : Prop :=
  ∀ (a b c : Word) (s : State), let l := fun x : Word => x.extractLsb' 0 32
    exec (.minQ32 a b) s = .next (s.answered (if a.slt b then a else b)) ∧
    exec (.maxQ32 a b) s = .next (s.answered (if b.slt a then a else b)) ∧
    exec (.clampQ32 a b c) s = .next (s.answered (if c.slt a then c else if a.slt b then b else a)) ∧
    exec (.minQ16 a b) s = .next (s.answered ((if (l a).slt (l b) then l a else l b).signExtend 64)) ∧
    exec (.maxQ16 a b) s = .next (s.answered ((if (l b).slt (l a) then l a else l b).signExtend 64)) ∧
    exec (.clampQ16 a b c) s = .next (s.answered
      ((if (l c).slt (l a) then l c else if (l a).slt (l b) then l b else l a).signExtend 64))

/-- Operand aliasing: `Min(x, x) = Max(x, x) = Clamp(x, x, x) = x`, `Sub(x, x) = 0`, `Mod(x, x) = 0`, and
`DivPrecise(x, x) = One` for `x` other than 0 and `MinValue` (70_reset_and_hazards.md R494). -/
def Obligations.AliasedOperands : Prop :=
  ∀ (K : Kernel) (x : Word) (s : State), let own := rawWord K (rawValue K x)
    exec (minInstr K x x) s = .next (s.answered own) ∧
    exec (maxInstr K x x) s = .next (s.answered own) ∧
    exec (clampInstr K x x x) s = .next (s.answered own) ∧
    exec (subInstr K x x) s = .next (s.answered 0) ∧
    exec (modInstr K x x) s = .next (s.answered 0) ∧
    exec (divpreciseInstr K x x) s = .next (s.answered
      (if rawValue K x = 0 ∨ rawValue K x = -2 ^ (K.width - 1) then 0 else oneWord K))

/-- `lerp.q32` and `lerp.q16`: the sum of the native products with `One - t` and with `t`, every intermediate result as its own
opcode returns it; `t = 0` gives `a` and `t = One` gives `b` exactly (43_kernel_patterns.md R220). -/
def Obligations.LerpIsTwoNativeMultiplies : Prop :=
  ∀ (K : Kernel) (a b t : Word) (s : State),
    exec (lerpInstr K a b t) s = .next (s.answered (answerOf (addInstr K
      (answerOf (mulInstr K a (answerOf (subInstr K (oneWord K) t)))) (answerOf (mulInstr K b t))))) ∧
    exec (lerpInstr K a b 0) s = .next (s.answered (rawWord K (rawValue K a))) ∧
    exec (lerpInstr K a b (oneWord K)) s = .next (s.answered (rawWord K (rawValue K b)))

/-- `fromint.q32` and `fromint.q16`: the `int` moved up by the fractional bits; the high bits that do not fit are dropped
(43_kernel_patterns.md R221). -/
def Obligations.FromIntShiftsUp : Prop :=
  ∀ (a : Word) (s : State),
    exec (.fromintQ32 a) s = .next (s.answered ((a.extractLsb' 0 32).signExtend 64 <<< 32)) ∧
    exec (.fromintQ16 a) s = .next (s.answered ((a.extractLsb' 0 32 <<< 16).signExtend 64))

/-- `fromfloat` and `fromdouble` of the two kernels: 0 for an infinity or a NaN, else the exact value times `2^F`, truncated
toward zero, wrapped (43_kernel_patterns.md R196, R197). -/
def Obligations.FromFloatTruncates : Prop :=
  ∀ (K : Kernel) (fmt : FloatFormat) (a : Word) (s : State),
    exec (fromfpInstr K fmt a) s = .next (s.answered
      (if patternExp fmt a = 2 ^ fmt.expBits - 1 then 0
       else rawWord K (truncRat (patternValue fmt a * 2 ^ K.frac))))

/-- `tofloat` and `todouble` of the two kernels: the all-zero pattern for 0; else a normal finite pattern with the operand's
sign whose value is the operand's, rounded once to the format's significand, to nearest with ties to even
(43_kernel_patterns.md R196, R198). -/
def Obligations.ToFloatRoundsToNearestEven : Prop :=
  ∀ (K : Kernel) (fmt : FloatFormat) (a : Word) (s : State), ∃ w : Word,
    exec (tofpInstr K fmt a) s = .next (s.answered w) ∧
    (let x := rawValue K a
     let scale : Int := (x.natAbs.log2 : Int) - fmt.fracBits
     (x = 0 → w = 0) ∧
     (x ≠ 0 → w.toNat < 2 ^ (1 + fmt.expBits + fmt.fracBits) ∧ patternSign fmt w = (if x < 0 then 1 else 0) ∧
       0 < patternExp fmt w ∧ patternExp fmt w < 2 ^ fmt.expBits - 1 ∧
       patternValue fmt w = (if x < 0 then -1 else 1) * roundEven ((x.natAbs : ℚ) * 2 ^ (-scale)) * 2 ^ (scale - K.frac)))

/-- A finite floating-point value within a kernel's range goes into the kernel and back truncated to the format's fractional
resolution, exactly (95_test_vectors.md P1; 43_kernel_patterns.md R197, R198). -/
def Obligations.FloatRoundTrip : Prop :=
  ∀ (K : Kernel) (fmt : FloatFormat) (a : Word) (s : State), patternExp fmt a ≠ 2 ^ fmt.expBits - 1 →
    |patternValue fmt a| < 2 ^ (K.width - 1 - K.frac) →
    ∃ w : Word, exec (tofpInstr K fmt (answerOf (fromfpInstr K fmt a))) s = .next (s.answered w) ∧
      patternValue fmt w = (truncRat (patternValue fmt a * 2 ^ K.frac) : ℚ) / 2 ^ K.frac

/-- Where the exact quotient neither hits a sentinel nor wraps, multiplying it back recovers the dividend to within
`ceil(abs(b) / One) + 1` raw units, in both kernels (95_test_vectors.md P3 as corrected; 90_conflicts.md C18). -/
def Obligations.DivPreciseTimesDivisor : Prop :=
  ∀ (K : Kernel) (a b : Word) (s : State), let x := rawValue K a
    let y := rawValue K b
    y ≠ 0 → y ≠ -2 ^ (K.width - 1) → |(x : ℚ) * 2 ^ K.frac / y| < 2 ^ (K.width - 1) →
    ∃ w : Word, exec (mulInstr K (answerOf (divpreciseInstr K a b)) b) s = .next (s.answered w) ∧
      |rawValue K w - x| ≤ ⌈|(y : ℚ)| / 2 ^ K.frac⌉ + 1

/-! ## Reciprocal and square root -/

/-- `rcp`, `rcpfast`, `rcpfastest` of the two kernels: 0 for a non-positive operand, else the Reciprocal evaluator's answer for
the mantissa, shifted by the exponent and wrapped (43_kernel_patterns.md R200). -/
def Obligations.RcpScalesTheEvaluator : Prop :=
  ∀ (K : Kernel) (t : Tier) (a : Word) (s : State),
    exec (rcpInstr K t a) s = .next (s.answered
      (let x := rawValue K a
       if x ≤ 0 then 0
       else
         let r := (answerOf (rcpEvalInstr t (mantissaWord x.natAbs))).toInt
         rawWord K (floorScaled r (-(30 + valueExp K x.natAbs - K.frac)))))

/-- For a positive operand the reciprocal is the division of `One` by it, in the same tier (43_kernel_patterns.md R200). -/
def Obligations.RcpIsDivOfOne : Prop :=
  ∀ (K : Kernel) (t : Tier) (a : Word) (s : State), 0 < rawValue K a →
    exec (rcpInstr K t a) s = .next (s.answered (answerOf (divInstr K t (oneWord K) a)))

/-- `sqrt`, `sqrtfast`, `sqrtfastest` of the two kernels: 0 for a non-positive operand, else the Sqrt evaluator's answer for
the mantissa times 1.0 or `SQRT2`, as the exponent is even or odd, shifted by half the exponent (43_kernel_patterns.md
R201, 42_rom_tables.md R182). -/
def Obligations.SqrtHalvesTheExponent : Prop :=
  ∀ (K : Kernel) (t : Tier) (a : Word) (s : State),
    exec (sqrtInstr K t a) s = .next (s.answered
      (let x := rawValue K a
       if x ≤ 0 then 0
       else
         let y := (answerOf (sqrtEvalInstr t (mantissaWord x.natAbs))).toInt
         let e := valueExp K x.natAbs
         rawWord K (floorScaled ((if e % 2 = 1 then 1518500250 else 1073741824) * y) (e / 2 + K.frac - 60))))

/-- `rsqrt`, `rsqrtfast`, `rsqrtfastest` of the two kernels: 0 for a non-positive operand, else the ReciprocalSqrt evaluator's
answer for the mantissa times 1.0 or `RSQRT2`, shifted by minus half the exponent (43_kernel_patterns.md R202,
42_rom_tables.md R182). -/
def Obligations.RSqrtNegatesTheHalvedExponent : Prop :=
  ∀ (K : Kernel) (t : Tier) (a : Word) (s : State),
    exec (rsqrtInstr K t a) s = .next (s.answered
      (let x := rawValue K a
       if x ≤ 0 then 0
       else
         let y := (answerOf (rsqrtEvalInstr t (mantissaWord x.natAbs))).toInt
         let e := valueExp K x.natAbs
         rawWord K (floorScaled ((if e % 2 = 1 then 759250125 else 1073741824) * y) (K.frac - 60 - e / 2))))

/-! ## Exponentials, logarithms, power -/

/-- `exp2`, `exp2fast`, `exp2fastest` of the two kernels: `MaxValue` from `(W-F-1) * One` on, 0 below `-F * One`, else the Exp2
evaluator's answer for the fraction, shifted by the integer part (43_kernel_patterns.md R203). -/
def Obligations.Exp2ClampsAndShifts : Prop :=
  ∀ (K : Kernel) (t : Tier) (a : Word) (s : State),
    exec (exp2Instr K t a) s = .next (s.answered
      (let x := rawValue K a
       if ((K.width : Int) - K.frac - 1) * 2 ^ K.frac ≤ x then rawWord K (2 ^ (K.width - 1) - 1)
       else if x < -(K.frac : Int) * 2 ^ K.frac then 0
       else
         let i : Int := ⌊(x : ℚ) / 2 ^ K.frac⌋
         let f : Int := x - i * 2 ^ K.frac
         let y := (answerOf (exp2EvalInstr t (BitVec.ofInt 64 (floorScaled f (30 - (K.frac : Int)))))).toInt
         rawWord K (floorScaled y (i + K.frac - 30))))

/-- `exp`, `expfast`, `expfastest` of the two kernels are the kernel's `exp2` of the operand times `RCP_LN2`, with the clamps of
`exp2` applied to the exact product (43_kernel_patterns.md R204). -/
def Obligations.ExpIsExp2OfTheExactProduct : Prop :=
  ∀ (K : Kernel) (t : Tier) (a : Word) (s : State),
    exec (expInstr K t a) s = .next (s.answered (expWord K t (rawValue K a)))

/-- `log2`, `log2fast`, `log2fastest` of the two kernels: 0 for a non-positive operand, else the exponent plus the Log2
evaluator's answer for the mantissa (43_kernel_patterns.md R205). -/
def Obligations.Log2AddsTheExponent : Prop :=
  ∀ (K : Kernel) (t : Tier) (a : Word) (s : State),
    exec (log2Instr K t a) s = .next (s.answered
      (let x := rawValue K a
       if x ≤ 0 then 0
       else
         let y := (answerOf (log2EvalInstr t (mantissaWord x.natAbs))).toInt
         rawWord K (valueExp K x.natAbs * 2 ^ K.frac + floorScaled y ((K.frac : Int) - 30))))

/-- `log`, `logfast`, `logfastest` of the two kernels are the kernel's native product of `log2` and `LN2`
(43_kernel_patterns.md R206, R192). -/
def Obligations.LogIsLog2TimesLn2 : Prop :=
  ∀ (K : Kernel) (t : Tier) (a : Word) (s : State),
    exec (logInstr K t a) s = .next (s.answered (answerOf (mulInstr K (answerOf (log2Instr K t a))
      (match K with | .q32 => 2977044472 | .q16 => 45426))))

/-- `pow`, `powfast`, `powfastest` of the two kernels: 0 for a non-positive base, whatever the exponent, else the exponential of
the exact product of the exponent and the base's logarithm, in the same tier (43_kernel_patterns.md R207). -/
def Obligations.PowIsExpOfTheExactProduct : Prop :=
  ∀ (K : Kernel) (t : Tier) (a b : Word) (s : State),
    exec (powInstr K t a b) s = .next (s.answered
      (if rawValue K a ≤ 0 then 0
       else expWord K t ⌊((rawValue K b * rawValue K (answerOf (logInstr K t a)) : Int) : ℚ) / 2 ^ K.frac⌋))

/-- What is exact at the powers of two, in every tier and both kernels: `log2`, `exp2`, `rcp`, and `sqrt` and `rsqrt` where the
exponent is even (43_kernel_patterns.md R200 to R203, R205). -/
def Obligations.PowersOfTwoAreExact : Prop :=
  ∀ (K : Kernel) (t : Tier) (j : Nat) (s : State), j ≤ K.width - 2 →
    exec (log2Instr K t (rawWord K (2 ^ j))) s = .next (s.answered (rawWord K (((j : Int) - K.frac) * 2 ^ K.frac))) ∧
    exec (exp2Instr K t (rawWord K (((j : Int) - K.frac) * 2 ^ K.frac))) s = .next (s.answered (rawWord K (2 ^ j))) ∧
    exec (rcpInstr K t (rawWord K (2 ^ j))) s =
      .next (s.answered (rawWord K (floorScaled 1 (2 * (K.frac : Int) - j)))) ∧
    (j % 2 = 0 →
      exec (sqrtInstr K t (rawWord K (2 ^ j))) s = .next (s.answered (rawWord K (2 ^ ((j + K.frac) / 2)))) ∧
      exec (rsqrtInstr K t (rawWord K (2 ^ j))) s = .next (s.answered (rawWord K (2 ^ ((3 * K.frac - j) / 2)))))

/-! ## Trigonometry -/

/-- `sin` and `cos` of every tier and both kernels: the unit-sine evaluator's answer for the phase, for the cosine a quarter
turn on, brought from Q2.30 to the kernel's format (43_kernel_patterns.md R208 to R210). -/
def Obligations.SinAndCosOfThePhase : Prop :=
  ∀ (K : Kernel) (t : Tier) (a : Word) (s : State),
    exec (sinInstr K t a) s = .next (s.answered
      (rawWord K (floorScaled (answerOf (usinEvalInstr t (phaseWord K a))).toInt ((K.frac : Int) - 30)))) ∧
    exec (cosInstr K t a) s = .next (s.answered
      (rawWord K (floorScaled (answerOf (usinEvalInstr t (phaseWord K a + 0x40000000))).toInt ((K.frac : Int) - 30))))

/-- `tan` of every tier and both kernels is the kernel's `div` of the same tier on the unit-sine answers for sine and cosine;
where the cosine is 0 it is therefore 0 (43_kernel_patterns.md R211). -/
def Obligations.TanIsSineOverCosine : Prop :=
  ∀ (K : Kernel) (t : Tier) (a : Word) (s : State),
    exec (tanInstr K t a) s = .next (s.answered (answerOf (divInstr K t
      (answerOf (usinEvalInstr t (phaseWord K a))) (answerOf (usinEvalInstr t (phaseWord K a + 0x40000000))))))

/-- `atan2` of every tier and both kernels: 0 at the origin; else the octant angle of the two magnitudes and the offset the
signs and the swap select (43_kernel_patterns.md R212, R192). -/
def Obligations.Atan2SelectsTheQuadrant : Prop :=
  ∀ (K : Kernel) (t : Tier) (a b : Word) (s : State),
    exec (atan2Instr K t a b) s = .next (s.answered
      (let y := rawValue K a
       let x := rawValue K b
       let pi : Int := match K with | .q32 => 13493037705 | .q16 => 205887
       let piHalf : Int := match K with | .q32 => 6746518852 | .q16 => 102944
       let v := octantRaw K t (min y.natAbs x.natAbs) (max y.natAbs x.natAbs)
       if y = 0 ∧ x = 0 then 0
       else if y.natAbs ≤ x.natAbs then
         if 0 ≤ x then rawWord K (if 0 ≤ y then v else -v) else rawWord K (if 0 ≤ y then pi - v else v - pi)
       else
         if 0 ≤ y then rawWord K (if 0 ≤ x then piHalf - v else piHalf + v)
         else rawWord K (if 0 ≤ x then v - piHalf else -piHalf - v)))

/-- On the axes `atan2` is exact in every tier and both kernels, and `atan` of 0 is 0 (43_kernel_patterns.md R212, R213;
95_test_vectors.md P5). -/
def Obligations.Atan2AxesAreExact : Prop :=
  ∀ (K : Kernel) (t : Tier) (a : Word) (s : State),
    let pi : Int := match K with | .q32 => 13493037705 | .q16 => 205887
    let piHalf : Int := match K with | .q32 => 6746518852 | .q16 => 102944
    exec (atan2Instr K t 0 a) s = .next (s.answered (if 0 ≤ rawValue K a then 0 else rawWord K pi)) ∧
    exec (atan2Instr K t a 0) s = .next (s.answered
      (if rawValue K a = 0 then 0 else if 0 < rawValue K a then rawWord K piHalf else rawWord K (-piHalf))) ∧
    exec (atanInstr K t 0) s = .next (s.answered 0)

/-- `atan` of every tier and both kernels is `atan2` of the operand and `One` (43_kernel_patterns.md R213). -/
def Obligations.AtanIsAtan2WithOne : Prop :=
  ∀ (K : Kernel) (t : Tier) (a : Word) (s : State),
    exec (atanInstr K t a) s = .next (s.answered (answerOf (atan2Instr K t a (oneWord K))))

/-- `asin.q32` and `acos.q32` of every tier: 0 outside `[-One, One]`, else `atan2` of the operand and the root, and its
complement by exchanged arguments (43_kernel_patterns.md R214). -/
def Obligations.ArcFunctionsOfQ32 : Prop :=
  ∀ (t : Tier) (a : Word) (s : State),
    exec (asinInstr .q32 t a) s = .next (s.answered
      (if a.toInt < -2 ^ 32 ∨ 2 ^ 32 < a.toInt then 0 else answerOf (atan2Instr .q32 t a (arcRootWord t a)))) ∧
    exec (acosInstr .q32 t a) s = .next (s.answered
      (if a.toInt < -2 ^ 32 ∨ 2 ^ 32 < a.toInt then 0 else answerOf (atan2Instr .q32 t (arcRootWord t a) a)))

/-- `asin.q16` and `acos.q16` of every tier: 0 outside `[-One, One]`, else the Q32.32 answer for the widened operand, narrowed
by an arithmetic shift (43_kernel_patterns.md R215). -/
def Obligations.ArcFunctionsOfQ16AreComputedInQ32 : Prop :=
  ∀ (t : Tier) (a : Word) (s : State), let x := (a.extractLsb' 0 32).toInt
    let wide : Word := (a.extractLsb' 0 32).signExtend 64 <<< 16
    exec (asinInstr .q16 t a) s = .next (s.answered
      (if x < -2 ^ 16 ∨ 2 ^ 16 < x then 0
       else (((answerOf (asinInstr .q32 t wide)).sshiftRight 16).extractLsb' 0 32).signExtend 64)) ∧
    exec (acosInstr .q16 t a) s = .next (s.answered
      (if x < -2 ^ 16 ∨ 2 ^ 16 < x then 0
       else (((answerOf (acosInstr .q32 t wide)).sshiftRight 16).extractLsb' 0 32).signExtend 64))

end
end

