-- ==== Sys2Proof/Laws/Arith.lean ====
section
/-! SUPPORT. What the integer primitives compute, said once: wraparound, the direction-aware shifts and the normalizer. -/

namespace Sys2Proof.Machine

theorem wrap_lower (n : Nat) (v : Int) : -(2 ^ n / 2) ≤ wrap n v := by
  have h := Int.le_bmod (x := v) (m := 2 ^ n) (by positivity)
  simpa [wrap] using h

theorem wrap_upper (n : Nat) (v : Int) : wrap n v < (2 ^ n + 1) / 2 := by
  have h := Int.bmod_lt (x := v) (m := 2 ^ n) (by positivity)
  simpa [wrap] using h

/-- Wraparound does not change the bits of a word that is no wider. -/
theorem ofInt_wrap {m n : Nat} (h : m ≤ n) (v : Int) : BitVec.ofInt m (wrap n v) = BitVec.ofInt m v := by
  apply BitVec.eq_of_toNat_eq
  have hd : (2 ^ m : Int) ∣ 2 ^ n := pow_dvd_pow 2 h
  have h1 : (2 ^ n : Int) ∣ wrap n v - v := by
    have := Int.dvd_bmod_sub_self (x := v) (m := 2 ^ n)
    simpa [wrap] using this
  have key : wrap n v % (2 ^ m : Int) = v % 2 ^ m := 
    Int.ModEq.symm (Int.modEq_iff_dvd.2 (hd.trans h1))
  simp [BitVec.toNat_ofInt, key]

/-- A value that fits is not changed by wraparound. -/
theorem wrap_eq_self {n : Nat} {v : Int} (hn : 0 < n) (hl : -(2 ^ (n - 1)) ≤ v) (hu : v < 2 ^ (n - 1)) :
    wrap n v = v := by
  obtain ⟨k, rfl⟩ : ∃ k, n = k + 1 := ⟨n - 1, by omega⟩
  unfold wrap
  apply Int.bmod_eq_of_le <;> push_cast <;> simp only [pow_succ, Nat.add_sub_cancel] at * <;> omega

theorem shr_ofNat (v : Int) (n : Nat) : shr v n = v / 2 ^ n := rfl

theorem shr_neg (v : Int) (n : Nat) : shr v (-(n : Int)) = v * 2 ^ n := by
  cases n with
  | zero => simp [shr]
  | succ n => rfl

/-- `SHR(v, n)` is the floor of `v * 2^(-n)` (00_scope.md R11). -/
theorem shr_eq_floor (v n : Int) : shr v n = ⌊(v : ℚ) * 2 ^ (-n)⌋ := by
  cases n with
  | ofNat k =>
    have h : ((v : ℚ) * 2 ^ (-(Int.ofNat k))) = (v : ℚ) / ((2 ^ k : Int) : ℚ) := by
      simp [zpow_neg, div_eq_mul_inv]
    rw [h]
    exact (Rat.floor_intCast_div_natCast v (2 ^ k)).symm ▸ by simp [shr]
  | negSucc k =>
    have h : ((v : ℚ) * 2 ^ (-(Int.negSucc k))) = ((v * 2 ^ (k + 1) : Int) : ℚ) := by
      rw [Int.neg_negSucc, zpow_natCast]
      push_cast
      rfl
    rw [h, Int.floor_intCast]
    rfl

/-- Left of the width, and right of it, the values R103 names are those of the continued formula. -/
theorem shiftRight_eq {n : Nat} (hn : 0 < n) {x : Int} (hl : -(2 ^ (n - 1)) ≤ x) (hu : x < 2 ^ (n - 1)) (amount : Int) :
    shiftRight n x amount = wrap n (shr x amount) := by
  unfold shiftRight
  split
  · rename_i h
    obtain ⟨k, rfl⟩ := Int.eq_ofNat_of_zero_le (by omega : 0 ≤ amount)
    have hp : (2 : Int) ^ (n - 1) ≤ 2 ^ k := pow_le_pow_right₀ (by norm_num) (by omega)
    have hpos : (0 : Int) < 2 ^ (n - 1) := by positivity
    have hv : shr x k = if x < 0 then -1 else 0 := by
      show x / 2 ^ k = _
      split
      · exact Int.ediv_eq_neg_one_of_neg_of_le (by omega) (by omega)
      · exact Int.ediv_eq_zero_of_lt (by omega) (by omega)
    rw [hv]
    symm
    apply wrap_eq_self hn <;> split <;> omega
  · split
    · rename_i h1 h2
      obtain ⟨k, hk⟩ := Int.eq_ofNat_of_zero_le (by omega : 0 ≤ -amount)
      obtain rfl : amount = -(k : Int) := by omega
      rw [shr_neg]
      obtain ⟨d, rfl⟩ : ∃ d, k = n + d := ⟨k - n, by omega⟩
      refine (Int.bmod_eq_zero_of_dvd ?_).symm
      rw [pow_add]
      exact ⟨x * 2 ^ d, by push_cast; ring⟩
    · rfl

/-- The logical shift with its clamps is the continued formula as well (40_bit_primitives.md R106). -/
theorem logicalShiftRight_eq (x amount : Int) :
    logicalShiftRight x amount = unsigned 64 (shr (unsigned 64 x) amount) := by
  unfold logicalShiftRight
  have hx0 : 0 ≤ unsigned 64 x := Int.emod_nonneg _ (by norm_num)
  have hx1 : unsigned 64 x < 2 ^ 64 := Int.emod_lt_of_pos _ (by norm_num)
  split
  · obtain ⟨k, rfl⟩ := Int.eq_ofNat_of_zero_le (by omega : 0 ≤ amount)
    have hp : (2 : Int) ^ 64 ≤ 2 ^ k := pow_le_pow_right₀ (by norm_num) (by omega)
    have hv : shr (unsigned 64 x) k = 0 := Int.ediv_eq_zero_of_lt hx0 (by omega)
    rw [hv]
    rfl
  · split
    · obtain ⟨k, hk⟩ := Int.eq_ofNat_of_zero_le (by omega : 0 ≤ -amount)
      obtain rfl : amount = -(k : Int) := by omega
      obtain ⟨d, rfl⟩ : ∃ d, k = 64 + d := ⟨k - 64, by omega⟩
      rw [shr_neg]
      refine (Int.emod_eq_zero_of_dvd ?_).symm
      rw [pow_add]
      exact ⟨unsigned 64 x * 2 ^ d, by ring⟩
    · rfl

/-- The top set bit of a positive word (40_bit_primitives.md R100, R108). -/
theorem normalize_msb {w : Nat} {m : Int} (hm : 0 < m) (hw : m < 2 ^ w) :
    (normalize w m).msb = m.toNat.log2 := by
  have h0 : m.toNat ≠ 0 := by omega
  have hlt : m.toNat.log2 < w := (Nat.log2_lt h0).2 (by
    have : (m.toNat : Int) < ((2 ^ w : Nat) : Int) := by push_cast; omega
    exact_mod_cast this)
  simp only [normalize, clz, if_neg h0]
  omega

/-- The Q2.30 mantissa is the magnitude divided by the power of two of its top set bit, scaled to 30 fraction bits
(40_bit_primitives.md R108). -/
theorem normalize_n {w : Nat} {m : Int} (hm : 0 < m) (hw : m < 2 ^ w) :
    (normalize w m).n = m * 2 ^ 30 / 2 ^ m.toNat.log2 := by
  have hmsb := normalize_msb hm hw
  show shr m ((normalize w m).msb - 30) = _
  rw [hmsb]
  rcases le_total 30 m.toNat.log2 with h | h
  · obtain ⟨d, hd⟩ := Nat.exists_eq_add_of_le h
    rw [hd, show ((30 + d : Nat) : Int) - 30 = (d : Nat) by push_cast; ring, shr_ofNat, pow_add, mul_comm m]
    exact (Int.mul_ediv_mul_of_pos _ _ (by norm_num)).symm
  · obtain ⟨d, hd⟩ := Nat.exists_eq_add_of_le h
    rw [show ((m.toNat.log2 : Nat) : Int) - 30 = -(d : Int) by omega, shr_neg,
      show (2 : Int) ^ 30 = 2 ^ m.toNat.log2 * 2 ^ d by rw [← pow_add, ← hd], mul_left_comm]
    exact (Int.mul_ediv_cancel_left _ (by positivity)).symm

/-- The mantissa fraction (40_bit_primitives.md R108). -/
theorem normalize_k {w : Nat} {m : Int} (hm : 0 < m) (hw : m < 2 ^ w) :
    (normalize w m).k = m * 2 ^ 30 / 2 ^ m.toNat.log2 - 2 ^ 30 := by
  rw [← normalize_n hm hw]; rfl

end Sys2Proof.Machine
end

