-- ==== Sys2Proof/Laws/Engine.lean ====
section
/-! SUPPORT. The shape of a Horner chain and of the evaluators' results (41_poly_engine.md R122, R124, R126). -/

namespace Sys2Proof.Machine

@[simp] theorem horner_singleton (a c : Int) : horner a [c] = c := rfl

@[simp] theorem horner_cons (a c d : Int) (cs : Poly) :
    horner a (c :: d :: cs) = wrap 32 (shr (a * horner a (d :: cs)) 30 + c) := rfl

/-- A quantized product is a 32-bit signed word. -/
theorem qmul30_range (a b : Int) : -(2 ^ 31) ≤ qmul30 a b ∧ qmul30 a b < 2 ^ 31 := by
  have h1 := wrap_lower 32 (shr (a * b) 30)
  have h2 := wrap_upper 32 (shr (a * b) 30)
  unfold qmul30
  omega

/-- A Horner chain over 32-bit coefficients is a 32-bit signed word, whatever the argument. -/
theorem horner_range (a : Int) {p : Poly} (hp : ∀ c ∈ p, -(2 ^ 31) ≤ c ∧ c < 2 ^ 31) :
    -(2 ^ 31) ≤ horner a p ∧ horner a p < 2 ^ 31 := by
  match p with
  | [] => simp [horner]
  | [c] => exact hp c (by simp)
  | c :: d :: cs =>
    have h1 := wrap_lower 32 (shr (a * horner a (d :: cs)) 30 + c)
    have h2 := wrap_upper 32 (shr (a * horner a (d :: cs)) 30 + c)
    rw [horner_cons]
    omega

/-- At argument 0 a Horner chain is its first coefficient (41_poly_engine.md R152 (a)). -/
theorem horner_zero {c : Int} (p : Poly) (hc : -(2 ^ 31) ≤ c ∧ c < 2 ^ 31) : horner 0 (c :: p) = c := by
  cases p with
  | nil => rfl
  | cons d cs =>
    rw [horner_cons, zero_mul, show shr 0 30 = 0 from rfl, zero_add]
    exact wrap_eq_self (by norm_num) hc.1 hc.2

end Sys2Proof.Machine
end

