-- ==== Sys2Proof/Laws/Float.lean ====
section
/-! SUPPORT. The shift of a significand that `fromFP` limits to 64 bits either way is the exact shift of 43_kernel_patterns.md
R197, as far as a raw value of either kernel can hold it. -/

namespace Sys2Proof.Machine

theorem shiftLimit_eq_self {a : Int} (hl : -64 ≤ a) (hu : a ≤ 64) : shiftLimit a = a := by
  unfold shiftLimit; omega

/-- The limited shift and the exact shift have the same bits in every word of at most 64 bits. -/
theorem fromFP_shift {n : Nat} (hn : n ≤ 64) {sig : Int} (h0 : 0 ≤ sig) (h1 : sig < 2 ^ 64) (a : Int) :
    BitVec.ofInt n (shr sig (shiftLimit a)) = BitVec.ofInt n (shr sig a) := by
  rcases lt_or_ge a (-64) with hlo | hlo
  · obtain ⟨k, hk⟩ := Int.eq_ofNat_of_zero_le (by omega : 0 ≤ -a)
    obtain rfl : a = -(k : Int) := by omega
    have hs : shiftLimit (-(k : Int)) = -(64 : Nat) := by unfold shiftLimit; omega
    rw [hs, shr_neg, shr_neg]
    have hz : ∀ j : Nat, n ≤ j → BitVec.ofInt n (sig * 2 ^ j) = 0#n := by
      intro j hj
      apply BitVec.eq_of_toNat_eq
      have : (sig * 2 ^ j) % (2 ^ n : Int) = 0 := Int.emod_eq_zero_of_dvd ((pow_dvd_pow 2 hj).mul_left sig)
      simp [BitVec.toNat_ofInt, this]
    rw [hz 64 hn, hz k (by omega)]
  · rcases le_or_gt a 64 with hhi | hhi
    · rw [shiftLimit_eq_self hlo hhi]
    · obtain ⟨k, rfl⟩ := Int.eq_ofNat_of_zero_le (by omega : 0 ≤ a)
      have hs : shiftLimit (k : Int) = (64 : Nat) := by unfold shiftLimit; omega
      have hp : (2 : Int) ^ 64 ≤ 2 ^ k := pow_le_pow_right₀ (by norm_num) (by omega)
      rw [hs, shr_ofNat, shr_ofNat, Int.ediv_eq_zero_of_lt h0 h1, Int.ediv_eq_zero_of_lt h0 (by omega)]

end Sys2Proof.Machine
end

