-- ==== Sys2Proof/Laws/Operands.lean ====
section
/-! SUPPORT. What operand delivery reads and result delivery writes: ranges, and that a delivered result read again as an
operand of the same kind is the result reduced to its width (30_encoding.md R63, R64; 10_state.md R25). -/

namespace Sys2Proof.Machine

@[simp] theorem opnd_q32 (x : Word) : opnd .q32 x = x.toInt := rfl

@[simp] theorem opnd_q16 (x : Word) : opnd .q16 x = (lowHalf x).toInt := rfl

@[simp] theorem res_q32 (r : Int) : res .q32 r = BitVec.ofInt 64 r := rfl

@[simp] theorem res_q16 (r : Int) : res .q16 r = resInt32 r := rfl

/-- An operand of a kernel is a raw value of that kernel. -/
theorem opnd_range (K : Kernel) (x : Word) : K.minValue ≤ opnd K x ∧ opnd K x ≤ K.maxValue := by
  cases K
  · have h1 := BitVec.le_two_mul_toInt (x := x)
    have h2 := BitVec.two_mul_toInt_lt (x := x)
    simp only [opnd_q32, Kernel.minValue, Kernel.maxValue, Kernel.width]
    omega
  · have h1 := BitVec.le_two_mul_toInt (x := lowHalf x)
    have h2 := BitVec.two_mul_toInt_lt (x := lowHalf x)
    simp only [opnd_q16, Kernel.minValue, Kernel.maxValue, Kernel.width]
    omega

/-- A 32-bit signed result, read as a 64-bit signed word, is the result reduced to 32 bits. -/
theorem resInt32_toInt (r : Int) : (resInt32 r).toInt = wrap 32 r := by
  rw [resInt32, BitVec.toInt_signExtend_of_le (by norm_num), BitVec.toInt_ofInt]
  rfl

theorem lowHalf_resInt32 (r : Int) : lowHalf (resInt32 r) = BitVec.ofInt 32 r := by
  ext i hi
  simp only [lowHalf, resInt32, BitVec.getElem_setWidth, BitVec.getLsbD_signExtend]
  simp [hi, show i < 64 by omega]

/-- A 32-bit signed result read again as a 32-bit signed operand. -/
theorem opndInt32_resInt32 (r : Int) : opndInt32 (resInt32 r) = wrap 32 r := by
  rw [opndInt32, lowHalf_resInt32, BitVec.toInt_ofInt]
  rfl

/-- A result of a kernel read again as an operand of that kernel. -/
theorem opnd_res (K : Kernel) (r : Int) : opnd K (res K r) = wrap K.width r := by
  cases K
  · rw [opnd_q32, res_q32, BitVec.toInt_ofInt]
    rfl
  · rw [opnd_q16, res_q16, lowHalf_resInt32, BitVec.toInt_ofInt]
    rfl

/-- Wraparound to the kernel's width does not change a delivered result. -/
theorem res_wrap (K : Kernel) (r : Int) : res K (wrap K.width r) = res K r := by
  cases K
  · exact ofInt_wrap (le_refl 64) r
  · exact congrArg (BitVec.signExtend 64) (ofInt_wrap (le_refl 32) r)

end Sys2Proof.Machine
end

