-- ==== Sys2Proof/Laws/State.lean ====
section
/-! SUPPORT. One lemma for each field of `State` under each update, so that no proof unfolds a record update. -/

namespace Sys2Proof.Machine

@[simp] theorem State.respond_inFlight (s : State) (r : Word) : (s.respond r).inFlight = s.inFlight := rfl

@[simp] theorem State.respond_responses (s : State) (r : Word) :
    (s.respond r).responses = s.responses ++ [r] := rfl

@[simp] theorem State.issue_inFlight (s : State) (cmd : Command) :
    (s.issue cmd).inFlight = s.inFlight ++ [cmd] := rfl

@[simp] theorem State.issue_responses (s : State) (cmd : Command) :
    (s.issue cmd).responses = s.responses := rfl

@[simp] theorem State.reset_inFlight : State.reset.inFlight = [] := rfl

@[simp] theorem State.reset_responses : State.reset.responses = [] := rfl

@[simp] theorem State.resetEvent_inFlight (s : State) : s.resetEvent.inFlight = [] := rfl

@[simp] theorem State.resetEvent_responses (s : State) : s.resetEvent.responses = [] := rfl

/-- Two states are equal when their commands in flight and their pending responses are. -/
theorem State.eq_of_fields {s t : State} (hi : s.inFlight = t.inFlight) (hr : s.responses = t.responses) : s = t := by
  cases s; cases t; simp_all

end Sys2Proof.Machine
end

