-- ==== Sys2Proof/Laws/Ops.lean ====
section
/-! SUPPORT. What each operation on the state can do, said once. -/

namespace Sys2Proof.Machine

@[simp] theorem State.takeCommand_nil {s : State} (h : s.inFlight = []) : s.takeCommand = none := by
  simp [State.takeCommand, h]

@[simp] theorem State.takeCommand_cons {s : State} {cmd : Command} {cs : List Command}
    (h : s.inFlight = cmd :: cs) : s.takeCommand = some (cmd, { s with inFlight := cs }) := by
  simp [State.takeCommand, h]

/-- Taking a command takes the oldest one and changes nothing else. -/
theorem State.takeCommand_some {s t : State} {cmd : Command} (h : s.takeCommand = some (cmd, t)) :
    s.inFlight = cmd :: t.inFlight ∧ t.responses = s.responses := by
  cases hs : s.inFlight with
  | nil => simp [State.takeCommand, hs] at h
  | cons c cs =>
    rw [State.takeCommand_cons hs] at h
    obtain ⟨rfl, rfl⟩ := by simpa using h
    exact ⟨rfl, rfl⟩

/-- Delivering a response answers one next state: the response joined, everything else as before. -/
theorem deliver_next {s t : State} {r : Word} (h : deliver s r = .next t) :
    t.inFlight = s.inFlight ∧ t.responses = s.responses ++ [r] := by
  obtain rfl : s.respond r = t := by simpa [deliver] using h
  exact ⟨rfl, rfl⟩

/-- The host takes the oldest pending response and changes nothing else. -/
theorem State.collect_some {s t : State} {r : Word} (h : s.collect = some (r, t)) :
    s.responses = r :: t.responses ∧ t.inFlight = s.inFlight := by
  cases hs : s.responses with
  | nil => simp [State.collect, hs] at h
  | cons c cs =>
    simp only [State.collect, hs, Option.some.injEq, Prod.mk.injEq] at h
    obtain ⟨rfl, rfl⟩ := h
    exact ⟨rfl, rfl⟩

end Sys2Proof.Machine
end

