-- ==== Sys2Proof/Laws/PerInstr.lean ====
section
/-! SUPPORT. Statements about every instruction as syntax, proved constructor by constructor (LAWS.json "per_instruction"). -/

namespace Sys2Proof.Laws.DecodeEncode

/-- The command an instruction encodes to decodes to that instruction (30_encoding.md R65, R69). -/
def Statement (i : Instr) : Prop := decode (encode i) = .ok i

theorem fromintQ32 (a : Word) : Statement (.fromintQ32 a) :=
  (rfl : decode ⟨0x00, a, 0, 0⟩ = .ok (.fromintQ32 a))

theorem fromfloatQ32 (a : Word) : Statement (.fromfloatQ32 a) :=
  (rfl : decode ⟨0x01, a, 0, 0⟩ = .ok (.fromfloatQ32 a))

theorem fromdoubleQ32 (a : Word) : Statement (.fromdoubleQ32 a) :=
  (rfl : decode ⟨0x02, a, 0, 0⟩ = .ok (.fromdoubleQ32 a))

theorem todoubleQ32 (a : Word) : Statement (.todoubleQ32 a) :=
  (rfl : decode ⟨0x03, a, 0, 0⟩ = .ok (.todoubleQ32 a))

theorem tofloatQ32 (a : Word) : Statement (.tofloatQ32 a) :=
  (rfl : decode ⟨0x04, a, 0, 0⟩ = .ok (.tofloatQ32 a))

theorem floortointQ32 (a : Word) : Statement (.floortointQ32 a) :=
  (rfl : decode ⟨0x05, a, 0, 0⟩ = .ok (.floortointQ32 a))

theorem ceiltointQ32 (a : Word) : Statement (.ceiltointQ32 a) :=
  (rfl : decode ⟨0x06, a, 0, 0⟩ = .ok (.ceiltointQ32 a))

theorem roundtointQ32 (a : Word) : Statement (.roundtointQ32 a) :=
  (rfl : decode ⟨0x07, a, 0, 0⟩ = .ok (.roundtointQ32 a))

theorem addQ32 (a b : Word) : Statement (.addQ32 a b) :=
  (rfl : decode ⟨0x08, a, b, 0⟩ = .ok (.addQ32 a b))

theorem subQ32 (a b : Word) : Statement (.subQ32 a b) :=
  (rfl : decode ⟨0x09, a, b, 0⟩ = .ok (.subQ32 a b))

theorem mulQ32 (a b : Word) : Statement (.mulQ32 a b) :=
  (rfl : decode ⟨0x0A, a, b, 0⟩ = .ok (.mulQ32 a b))

theorem divQ32 (a b : Word) : Statement (.divQ32 a b) :=
  (rfl : decode ⟨0x0C, a, b, 0⟩ = .ok (.divQ32 a b))

theorem divfastQ32 (a b : Word) : Statement (.divfastQ32 a b) :=
  (rfl : decode ⟨0x0D, a, b, 0⟩ = .ok (.divfastQ32 a b))

theorem divfastestQ32 (a b : Word) : Statement (.divfastestQ32 a b) :=
  (rfl : decode ⟨0x0E, a, b, 0⟩ = .ok (.divfastestQ32 a b))

theorem divpreciseQ32 (a b : Word) : Statement (.divpreciseQ32 a b) :=
  (rfl : decode ⟨0x0F, a, b, 0⟩ = .ok (.divpreciseQ32 a b))

theorem ceilQ32 (a : Word) : Statement (.ceilQ32 a) :=
  (rfl : decode ⟨0x10, a, 0, 0⟩ = .ok (.ceilQ32 a))

theorem floorQ32 (a : Word) : Statement (.floorQ32 a) :=
  (rfl : decode ⟨0x11, a, 0, 0⟩ = .ok (.floorQ32 a))

theorem roundQ32 (a : Word) : Statement (.roundQ32 a) :=
  (rfl : decode ⟨0x12, a, 0, 0⟩ = .ok (.roundQ32 a))

theorem fractQ32 (a : Word) : Statement (.fractQ32 a) :=
  (rfl : decode ⟨0x13, a, 0, 0⟩ = .ok (.fractQ32 a))

theorem modQ32 (a b : Word) : Statement (.modQ32 a b) :=
  (rfl : decode ⟨0x14, a, b, 0⟩ = .ok (.modQ32 a b))

theorem minQ32 (a b : Word) : Statement (.minQ32 a b) :=
  (rfl : decode ⟨0x15, a, b, 0⟩ = .ok (.minQ32 a b))

theorem maxQ32 (a b : Word) : Statement (.maxQ32 a b) :=
  (rfl : decode ⟨0x16, a, b, 0⟩ = .ok (.maxQ32 a b))

theorem clampQ32 (a b c : Word) : Statement (.clampQ32 a b c) :=
  (rfl : decode ⟨0x17, a, b, c⟩ = .ok (.clampQ32 a b c))

theorem lerpQ32 (a b c : Word) : Statement (.lerpQ32 a b c) :=
  (rfl : decode ⟨0x18, a, b, c⟩ = .ok (.lerpQ32 a b c))

theorem rcpQ32 (a : Word) : Statement (.rcpQ32 a) :=
  (rfl : decode ⟨0x20, a, 0, 0⟩ = .ok (.rcpQ32 a))

theorem rcpfastQ32 (a : Word) : Statement (.rcpfastQ32 a) :=
  (rfl : decode ⟨0x21, a, 0, 0⟩ = .ok (.rcpfastQ32 a))

theorem rcpfastestQ32 (a : Word) : Statement (.rcpfastestQ32 a) :=
  (rfl : decode ⟨0x22, a, 0, 0⟩ = .ok (.rcpfastestQ32 a))

theorem sqrtQ32 (a : Word) : Statement (.sqrtQ32 a) :=
  (rfl : decode ⟨0x24, a, 0, 0⟩ = .ok (.sqrtQ32 a))

theorem sqrtfastQ32 (a : Word) : Statement (.sqrtfastQ32 a) :=
  (rfl : decode ⟨0x25, a, 0, 0⟩ = .ok (.sqrtfastQ32 a))

theorem sqrtfastestQ32 (a : Word) : Statement (.sqrtfastestQ32 a) :=
  (rfl : decode ⟨0x26, a, 0, 0⟩ = .ok (.sqrtfastestQ32 a))

theorem rsqrtQ32 (a : Word) : Statement (.rsqrtQ32 a) :=
  (rfl : decode ⟨0x28, a, 0, 0⟩ = .ok (.rsqrtQ32 a))

theorem rsqrtfastQ32 (a : Word) : Statement (.rsqrtfastQ32 a) :=
  (rfl : decode ⟨0x29, a, 0, 0⟩ = .ok (.rsqrtfastQ32 a))

theorem rsqrtfastestQ32 (a : Word) : Statement (.rsqrtfastestQ32 a) :=
  (rfl : decode ⟨0x2A, a, 0, 0⟩ = .ok (.rsqrtfastestQ32 a))

theorem expQ32 (a : Word) : Statement (.expQ32 a) :=
  (rfl : decode ⟨0x30, a, 0, 0⟩ = .ok (.expQ32 a))

theorem expfastQ32 (a : Word) : Statement (.expfastQ32 a) :=
  (rfl : decode ⟨0x31, a, 0, 0⟩ = .ok (.expfastQ32 a))

theorem expfastestQ32 (a : Word) : Statement (.expfastestQ32 a) :=
  (rfl : decode ⟨0x32, a, 0, 0⟩ = .ok (.expfastestQ32 a))

theorem exp2Q32 (a : Word) : Statement (.exp2Q32 a) :=
  (rfl : decode ⟨0x34, a, 0, 0⟩ = .ok (.exp2Q32 a))

theorem exp2fastQ32 (a : Word) : Statement (.exp2fastQ32 a) :=
  (rfl : decode ⟨0x35, a, 0, 0⟩ = .ok (.exp2fastQ32 a))

theorem exp2fastestQ32 (a : Word) : Statement (.exp2fastestQ32 a) :=
  (rfl : decode ⟨0x36, a, 0, 0⟩ = .ok (.exp2fastestQ32 a))

theorem logQ32 (a : Word) : Statement (.logQ32 a) :=
  (rfl : decode ⟨0x38, a, 0, 0⟩ = .ok (.logQ32 a))

theorem logfastQ32 (a : Word) : Statement (.logfastQ32 a) :=
  (rfl : decode ⟨0x39, a, 0, 0⟩ = .ok (.logfastQ32 a))

theorem logfastestQ32 (a : Word) : Statement (.logfastestQ32 a) :=
  (rfl : decode ⟨0x3A, a, 0, 0⟩ = .ok (.logfastestQ32 a))

theorem log2Q32 (a : Word) : Statement (.log2Q32 a) :=
  (rfl : decode ⟨0x3C, a, 0, 0⟩ = .ok (.log2Q32 a))

theorem log2fastQ32 (a : Word) : Statement (.log2fastQ32 a) :=
  (rfl : decode ⟨0x3D, a, 0, 0⟩ = .ok (.log2fastQ32 a))

theorem log2fastestQ32 (a : Word) : Statement (.log2fastestQ32 a) :=
  (rfl : decode ⟨0x3E, a, 0, 0⟩ = .ok (.log2fastestQ32 a))

theorem powQ32 (a b : Word) : Statement (.powQ32 a b) :=
  (rfl : decode ⟨0x40, a, b, 0⟩ = .ok (.powQ32 a b))

theorem powfastQ32 (a b : Word) : Statement (.powfastQ32 a b) :=
  (rfl : decode ⟨0x41, a, b, 0⟩ = .ok (.powfastQ32 a b))

theorem powfastestQ32 (a b : Word) : Statement (.powfastestQ32 a b) :=
  (rfl : decode ⟨0x42, a, b, 0⟩ = .ok (.powfastestQ32 a b))

theorem sinQ32 (a : Word) : Statement (.sinQ32 a) :=
  (rfl : decode ⟨0x44, a, 0, 0⟩ = .ok (.sinQ32 a))

theorem sinfastQ32 (a : Word) : Statement (.sinfastQ32 a) :=
  (rfl : decode ⟨0x45, a, 0, 0⟩ = .ok (.sinfastQ32 a))

theorem sinfastestQ32 (a : Word) : Statement (.sinfastestQ32 a) :=
  (rfl : decode ⟨0x46, a, 0, 0⟩ = .ok (.sinfastestQ32 a))

theorem cosQ32 (a : Word) : Statement (.cosQ32 a) :=
  (rfl : decode ⟨0x48, a, 0, 0⟩ = .ok (.cosQ32 a))

theorem cosfastQ32 (a : Word) : Statement (.cosfastQ32 a) :=
  (rfl : decode ⟨0x49, a, 0, 0⟩ = .ok (.cosfastQ32 a))

theorem cosfastestQ32 (a : Word) : Statement (.cosfastestQ32 a) :=
  (rfl : decode ⟨0x4A, a, 0, 0⟩ = .ok (.cosfastestQ32 a))

theorem tanQ32 (a : Word) : Statement (.tanQ32 a) :=
  (rfl : decode ⟨0x4C, a, 0, 0⟩ = .ok (.tanQ32 a))

theorem tanfastQ32 (a : Word) : Statement (.tanfastQ32 a) :=
  (rfl : decode ⟨0x4D, a, 0, 0⟩ = .ok (.tanfastQ32 a))

theorem tanfastestQ32 (a : Word) : Statement (.tanfastestQ32 a) :=
  (rfl : decode ⟨0x4E, a, 0, 0⟩ = .ok (.tanfastestQ32 a))

theorem asinQ32 (a : Word) : Statement (.asinQ32 a) :=
  (rfl : decode ⟨0x50, a, 0, 0⟩ = .ok (.asinQ32 a))

theorem asinfastQ32 (a : Word) : Statement (.asinfastQ32 a) :=
  (rfl : decode ⟨0x51, a, 0, 0⟩ = .ok (.asinfastQ32 a))

theorem asinfastestQ32 (a : Word) : Statement (.asinfastestQ32 a) :=
  (rfl : decode ⟨0x52, a, 0, 0⟩ = .ok (.asinfastestQ32 a))

theorem acosQ32 (a : Word) : Statement (.acosQ32 a) :=
  (rfl : decode ⟨0x54, a, 0, 0⟩ = .ok (.acosQ32 a))

theorem acosfastQ32 (a : Word) : Statement (.acosfastQ32 a) :=
  (rfl : decode ⟨0x55, a, 0, 0⟩ = .ok (.acosfastQ32 a))

theorem acosfastestQ32 (a : Word) : Statement (.acosfastestQ32 a) :=
  (rfl : decode ⟨0x56, a, 0, 0⟩ = .ok (.acosfastestQ32 a))

theorem atanQ32 (a : Word) : Statement (.atanQ32 a) :=
  (rfl : decode ⟨0x58, a, 0, 0⟩ = .ok (.atanQ32 a))

theorem atanfastQ32 (a : Word) : Statement (.atanfastQ32 a) :=
  (rfl : decode ⟨0x59, a, 0, 0⟩ = .ok (.atanfastQ32 a))

theorem atanfastestQ32 (a : Word) : Statement (.atanfastestQ32 a) :=
  (rfl : decode ⟨0x5A, a, 0, 0⟩ = .ok (.atanfastestQ32 a))

theorem atan2Q32 (a b : Word) : Statement (.atan2Q32 a b) :=
  (rfl : decode ⟨0x5C, a, b, 0⟩ = .ok (.atan2Q32 a b))

theorem atan2fastQ32 (a b : Word) : Statement (.atan2fastQ32 a b) :=
  (rfl : decode ⟨0x5D, a, b, 0⟩ = .ok (.atan2fastQ32 a b))

theorem atan2fastestQ32 (a b : Word) : Statement (.atan2fastestQ32 a b) :=
  (rfl : decode ⟨0x5E, a, b, 0⟩ = .ok (.atan2fastestQ32 a b))

theorem clzW32 (a : Word) : Statement (.clzW32 a) :=
  (rfl : decode ⟨0x60, a, 0, 0⟩ = .ok (.clzW32 a))

theorem clzW64 (a : Word) : Statement (.clzW64 a) :=
  (rfl : decode ⟨0x61, a, 0, 0⟩ = .ok (.clzW64 a))

theorem shrW32 (a b : Word) : Statement (.shrW32 a b) :=
  (rfl : decode ⟨0x62, a, b, 0⟩ = .ok (.shrW32 a b))

theorem shrW64 (a b : Word) : Statement (.shrW64 a b) :=
  (rfl : decode ⟨0x63, a, b, 0⟩ = .ok (.shrW64 a b))

theorem lshrW64 (a b : Word) : Statement (.lshrW64 a b) :=
  (rfl : decode ⟨0x64, a, b, 0⟩ = .ok (.lshrW64 a b))

theorem qmul30 (a b : Word) : Statement (.qmul30 a b) :=
  (rfl : decode ⟨0x65, a, b, 0⟩ = .ok (.qmul30 a b))

theorem fromintQ16 (a : Word) : Statement (.fromintQ16 a) :=
  (rfl : decode ⟨0x80, a, 0, 0⟩ = .ok (.fromintQ16 a))

theorem fromfloatQ16 (a : Word) : Statement (.fromfloatQ16 a) :=
  (rfl : decode ⟨0x81, a, 0, 0⟩ = .ok (.fromfloatQ16 a))

theorem fromdoubleQ16 (a : Word) : Statement (.fromdoubleQ16 a) :=
  (rfl : decode ⟨0x82, a, 0, 0⟩ = .ok (.fromdoubleQ16 a))

theorem todoubleQ16 (a : Word) : Statement (.todoubleQ16 a) :=
  (rfl : decode ⟨0x83, a, 0, 0⟩ = .ok (.todoubleQ16 a))

theorem tofloatQ16 (a : Word) : Statement (.tofloatQ16 a) :=
  (rfl : decode ⟨0x84, a, 0, 0⟩ = .ok (.tofloatQ16 a))

theorem floortointQ16 (a : Word) : Statement (.floortointQ16 a) :=
  (rfl : decode ⟨0x85, a, 0, 0⟩ = .ok (.floortointQ16 a))

theorem ceiltointQ16 (a : Word) : Statement (.ceiltointQ16 a) :=
  (rfl : decode ⟨0x86, a, 0, 0⟩ = .ok (.ceiltointQ16 a))

theorem roundtointQ16 (a : Word) : Statement (.roundtointQ16 a) :=
  (rfl : decode ⟨0x87, a, 0, 0⟩ = .ok (.roundtointQ16 a))

theorem addQ16 (a b : Word) : Statement (.addQ16 a b) :=
  (rfl : decode ⟨0x88, a, b, 0⟩ = .ok (.addQ16 a b))

theorem subQ16 (a b : Word) : Statement (.subQ16 a b) :=
  (rfl : decode ⟨0x89, a, b, 0⟩ = .ok (.subQ16 a b))

theorem mulQ16 (a b : Word) : Statement (.mulQ16 a b) :=
  (rfl : decode ⟨0x8A, a, b, 0⟩ = .ok (.mulQ16 a b))

theorem divQ16 (a b : Word) : Statement (.divQ16 a b) :=
  (rfl : decode ⟨0x8C, a, b, 0⟩ = .ok (.divQ16 a b))

theorem divfastQ16 (a b : Word) : Statement (.divfastQ16 a b) :=
  (rfl : decode ⟨0x8D, a, b, 0⟩ = .ok (.divfastQ16 a b))

theorem divfastestQ16 (a b : Word) : Statement (.divfastestQ16 a b) :=
  (rfl : decode ⟨0x8E, a, b, 0⟩ = .ok (.divfastestQ16 a b))

theorem divpreciseQ16 (a b : Word) : Statement (.divpreciseQ16 a b) :=
  (rfl : decode ⟨0x8F, a, b, 0⟩ = .ok (.divpreciseQ16 a b))

theorem ceilQ16 (a : Word) : Statement (.ceilQ16 a) :=
  (rfl : decode ⟨0x90, a, 0, 0⟩ = .ok (.ceilQ16 a))

theorem floorQ16 (a : Word) : Statement (.floorQ16 a) :=
  (rfl : decode ⟨0x91, a, 0, 0⟩ = .ok (.floorQ16 a))

theorem roundQ16 (a : Word) : Statement (.roundQ16 a) :=
  (rfl : decode ⟨0x92, a, 0, 0⟩ = .ok (.roundQ16 a))

theorem fractQ16 (a : Word) : Statement (.fractQ16 a) :=
  (rfl : decode ⟨0x93, a, 0, 0⟩ = .ok (.fractQ16 a))

theorem modQ16 (a b : Word) : Statement (.modQ16 a b) :=
  (rfl : decode ⟨0x94, a, b, 0⟩ = .ok (.modQ16 a b))

theorem minQ16 (a b : Word) : Statement (.minQ16 a b) :=
  (rfl : decode ⟨0x95, a, b, 0⟩ = .ok (.minQ16 a b))

theorem maxQ16 (a b : Word) : Statement (.maxQ16 a b) :=
  (rfl : decode ⟨0x96, a, b, 0⟩ = .ok (.maxQ16 a b))

theorem clampQ16 (a b c : Word) : Statement (.clampQ16 a b c) :=
  (rfl : decode ⟨0x97, a, b, c⟩ = .ok (.clampQ16 a b c))

theorem lerpQ16 (a b c : Word) : Statement (.lerpQ16 a b c) :=
  (rfl : decode ⟨0x98, a, b, c⟩ = .ok (.lerpQ16 a b c))

theorem rcpQ16 (a : Word) : Statement (.rcpQ16 a) :=
  (rfl : decode ⟨0xA0, a, 0, 0⟩ = .ok (.rcpQ16 a))

theorem rcpfastQ16 (a : Word) : Statement (.rcpfastQ16 a) :=
  (rfl : decode ⟨0xA1, a, 0, 0⟩ = .ok (.rcpfastQ16 a))

theorem rcpfastestQ16 (a : Word) : Statement (.rcpfastestQ16 a) :=
  (rfl : decode ⟨0xA2, a, 0, 0⟩ = .ok (.rcpfastestQ16 a))

theorem sqrtQ16 (a : Word) : Statement (.sqrtQ16 a) :=
  (rfl : decode ⟨0xA4, a, 0, 0⟩ = .ok (.sqrtQ16 a))

theorem sqrtfastQ16 (a : Word) : Statement (.sqrtfastQ16 a) :=
  (rfl : decode ⟨0xA5, a, 0, 0⟩ = .ok (.sqrtfastQ16 a))

theorem sqrtfastestQ16 (a : Word) : Statement (.sqrtfastestQ16 a) :=
  (rfl : decode ⟨0xA6, a, 0, 0⟩ = .ok (.sqrtfastestQ16 a))

theorem rsqrtQ16 (a : Word) : Statement (.rsqrtQ16 a) :=
  (rfl : decode ⟨0xA8, a, 0, 0⟩ = .ok (.rsqrtQ16 a))

theorem rsqrtfastQ16 (a : Word) : Statement (.rsqrtfastQ16 a) :=
  (rfl : decode ⟨0xA9, a, 0, 0⟩ = .ok (.rsqrtfastQ16 a))

theorem rsqrtfastestQ16 (a : Word) : Statement (.rsqrtfastestQ16 a) :=
  (rfl : decode ⟨0xAA, a, 0, 0⟩ = .ok (.rsqrtfastestQ16 a))

theorem expQ16 (a : Word) : Statement (.expQ16 a) :=
  (rfl : decode ⟨0xB0, a, 0, 0⟩ = .ok (.expQ16 a))

theorem expfastQ16 (a : Word) : Statement (.expfastQ16 a) :=
  (rfl : decode ⟨0xB1, a, 0, 0⟩ = .ok (.expfastQ16 a))

theorem expfastestQ16 (a : Word) : Statement (.expfastestQ16 a) :=
  (rfl : decode ⟨0xB2, a, 0, 0⟩ = .ok (.expfastestQ16 a))

theorem exp2Q16 (a : Word) : Statement (.exp2Q16 a) :=
  (rfl : decode ⟨0xB4, a, 0, 0⟩ = .ok (.exp2Q16 a))

theorem exp2fastQ16 (a : Word) : Statement (.exp2fastQ16 a) :=
  (rfl : decode ⟨0xB5, a, 0, 0⟩ = .ok (.exp2fastQ16 a))

theorem exp2fastestQ16 (a : Word) : Statement (.exp2fastestQ16 a) :=
  (rfl : decode ⟨0xB6, a, 0, 0⟩ = .ok (.exp2fastestQ16 a))

theorem logQ16 (a : Word) : Statement (.logQ16 a) :=
  (rfl : decode ⟨0xB8, a, 0, 0⟩ = .ok (.logQ16 a))

theorem logfastQ16 (a : Word) : Statement (.logfastQ16 a) :=
  (rfl : decode ⟨0xB9, a, 0, 0⟩ = .ok (.logfastQ16 a))

theorem logfastestQ16 (a : Word) : Statement (.logfastestQ16 a) :=
  (rfl : decode ⟨0xBA, a, 0, 0⟩ = .ok (.logfastestQ16 a))

theorem log2Q16 (a : Word) : Statement (.log2Q16 a) :=
  (rfl : decode ⟨0xBC, a, 0, 0⟩ = .ok (.log2Q16 a))

theorem log2fastQ16 (a : Word) : Statement (.log2fastQ16 a) :=
  (rfl : decode ⟨0xBD, a, 0, 0⟩ = .ok (.log2fastQ16 a))

theorem log2fastestQ16 (a : Word) : Statement (.log2fastestQ16 a) :=
  (rfl : decode ⟨0xBE, a, 0, 0⟩ = .ok (.log2fastestQ16 a))

theorem powQ16 (a b : Word) : Statement (.powQ16 a b) :=
  (rfl : decode ⟨0xC0, a, b, 0⟩ = .ok (.powQ16 a b))

theorem powfastQ16 (a b : Word) : Statement (.powfastQ16 a b) :=
  (rfl : decode ⟨0xC1, a, b, 0⟩ = .ok (.powfastQ16 a b))

theorem powfastestQ16 (a b : Word) : Statement (.powfastestQ16 a b) :=
  (rfl : decode ⟨0xC2, a, b, 0⟩ = .ok (.powfastestQ16 a b))

theorem sinQ16 (a : Word) : Statement (.sinQ16 a) :=
  (rfl : decode ⟨0xC4, a, 0, 0⟩ = .ok (.sinQ16 a))

theorem sinfastQ16 (a : Word) : Statement (.sinfastQ16 a) :=
  (rfl : decode ⟨0xC5, a, 0, 0⟩ = .ok (.sinfastQ16 a))

theorem sinfastestQ16 (a : Word) : Statement (.sinfastestQ16 a) :=
  (rfl : decode ⟨0xC6, a, 0, 0⟩ = .ok (.sinfastestQ16 a))

theorem cosQ16 (a : Word) : Statement (.cosQ16 a) :=
  (rfl : decode ⟨0xC8, a, 0, 0⟩ = .ok (.cosQ16 a))

theorem cosfastQ16 (a : Word) : Statement (.cosfastQ16 a) :=
  (rfl : decode ⟨0xC9, a, 0, 0⟩ = .ok (.cosfastQ16 a))

theorem cosfastestQ16 (a : Word) : Statement (.cosfastestQ16 a) :=
  (rfl : decode ⟨0xCA, a, 0, 0⟩ = .ok (.cosfastestQ16 a))

theorem tanQ16 (a : Word) : Statement (.tanQ16 a) :=
  (rfl : decode ⟨0xCC, a, 0, 0⟩ = .ok (.tanQ16 a))

theorem tanfastQ16 (a : Word) : Statement (.tanfastQ16 a) :=
  (rfl : decode ⟨0xCD, a, 0, 0⟩ = .ok (.tanfastQ16 a))

theorem tanfastestQ16 (a : Word) : Statement (.tanfastestQ16 a) :=
  (rfl : decode ⟨0xCE, a, 0, 0⟩ = .ok (.tanfastestQ16 a))

theorem asinQ16 (a : Word) : Statement (.asinQ16 a) :=
  (rfl : decode ⟨0xD0, a, 0, 0⟩ = .ok (.asinQ16 a))

theorem asinfastQ16 (a : Word) : Statement (.asinfastQ16 a) :=
  (rfl : decode ⟨0xD1, a, 0, 0⟩ = .ok (.asinfastQ16 a))

theorem asinfastestQ16 (a : Word) : Statement (.asinfastestQ16 a) :=
  (rfl : decode ⟨0xD2, a, 0, 0⟩ = .ok (.asinfastestQ16 a))

theorem acosQ16 (a : Word) : Statement (.acosQ16 a) :=
  (rfl : decode ⟨0xD4, a, 0, 0⟩ = .ok (.acosQ16 a))

theorem acosfastQ16 (a : Word) : Statement (.acosfastQ16 a) :=
  (rfl : decode ⟨0xD5, a, 0, 0⟩ = .ok (.acosfastQ16 a))

theorem acosfastestQ16 (a : Word) : Statement (.acosfastestQ16 a) :=
  (rfl : decode ⟨0xD6, a, 0, 0⟩ = .ok (.acosfastestQ16 a))

theorem atanQ16 (a : Word) : Statement (.atanQ16 a) :=
  (rfl : decode ⟨0xD8, a, 0, 0⟩ = .ok (.atanQ16 a))

theorem atanfastQ16 (a : Word) : Statement (.atanfastQ16 a) :=
  (rfl : decode ⟨0xD9, a, 0, 0⟩ = .ok (.atanfastQ16 a))

theorem atanfastestQ16 (a : Word) : Statement (.atanfastestQ16 a) :=
  (rfl : decode ⟨0xDA, a, 0, 0⟩ = .ok (.atanfastestQ16 a))

theorem atan2Q16 (a b : Word) : Statement (.atan2Q16 a b) :=
  (rfl : decode ⟨0xDC, a, b, 0⟩ = .ok (.atan2Q16 a b))

theorem atan2fastQ16 (a b : Word) : Statement (.atan2fastQ16 a b) :=
  (rfl : decode ⟨0xDD, a, b, 0⟩ = .ok (.atan2fastQ16 a b))

theorem atan2fastestQ16 (a b : Word) : Statement (.atan2fastestQ16 a b) :=
  (rfl : decode ⟨0xDE, a, b, 0⟩ = .ok (.atan2fastestQ16 a b))

theorem rcpP4l8 (a : Word) : Statement (.rcpP4l8 a) :=
  (rfl : decode ⟨0xE0, a, 0, 0⟩ = .ok (.rcpP4l8 a))

theorem rcpP6 (a : Word) : Statement (.rcpP6 a) :=
  (rfl : decode ⟨0xE1, a, 0, 0⟩ = .ok (.rcpP6 a))

theorem rcpP4 (a : Word) : Statement (.rcpP4 a) :=
  (rfl : decode ⟨0xE2, a, 0, 0⟩ = .ok (.rcpP4 a))

theorem sqrtP3l8 (a : Word) : Statement (.sqrtP3l8 a) :=
  (rfl : decode ⟨0xE4, a, 0, 0⟩ = .ok (.sqrtP3l8 a))

theorem sqrtP4 (a : Word) : Statement (.sqrtP4 a) :=
  (rfl : decode ⟨0xE5, a, 0, 0⟩ = .ok (.sqrtP4 a))

theorem sqrtP3 (a : Word) : Statement (.sqrtP3 a) :=
  (rfl : decode ⟨0xE6, a, 0, 0⟩ = .ok (.sqrtP3 a))

theorem rsqrtP3l16 (a : Word) : Statement (.rsqrtP3l16 a) :=
  (rfl : decode ⟨0xE8, a, 0, 0⟩ = .ok (.rsqrtP3l16 a))

theorem rsqrtP5 (a : Word) : Statement (.rsqrtP5 a) :=
  (rfl : decode ⟨0xE9, a, 0, 0⟩ = .ok (.rsqrtP5 a))

theorem rsqrtP3 (a : Word) : Statement (.rsqrtP3 a) :=
  (rfl : decode ⟨0xEA, a, 0, 0⟩ = .ok (.rsqrtP3 a))

theorem log2P5l8 (a : Word) : Statement (.log2P5l8 a) :=
  (rfl : decode ⟨0xEC, a, 0, 0⟩ = .ok (.log2P5l8 a))

theorem log2P3l8 (a : Word) : Statement (.log2P3l8 a) :=
  (rfl : decode ⟨0xED, a, 0, 0⟩ = .ok (.log2P3l8 a))

theorem log2P5 (a : Word) : Statement (.log2P5 a) :=
  (rfl : decode ⟨0xEE, a, 0, 0⟩ = .ok (.log2P5 a))

theorem exp2P5 (a : Word) : Statement (.exp2P5 a) :=
  (rfl : decode ⟨0xF0, a, 0, 0⟩ = .ok (.exp2P5 a))

theorem exp2P4 (a : Word) : Statement (.exp2P4 a) :=
  (rfl : decode ⟨0xF1, a, 0, 0⟩ = .ok (.exp2P4 a))

theorem exp2P3 (a : Word) : Statement (.exp2P3 a) :=
  (rfl : decode ⟨0xF2, a, 0, 0⟩ = .ok (.exp2P3 a))

theorem usinP4 (a : Word) : Statement (.usinP4 a) :=
  (rfl : decode ⟨0xF4, a, 0, 0⟩ = .ok (.usinP4 a))

theorem usinP3 (a : Word) : Statement (.usinP3 a) :=
  (rfl : decode ⟨0xF5, a, 0, 0⟩ = .ok (.usinP3 a))

theorem usinP2 (a : Word) : Statement (.usinP2 a) :=
  (rfl : decode ⟨0xF6, a, 0, 0⟩ = .ok (.usinP2 a))

theorem atanP5l8 (a : Word) : Statement (.atanP5l8 a) :=
  (rfl : decode ⟨0xF8, a, 0, 0⟩ = .ok (.atanP5l8 a))

theorem atanP3l8 (a : Word) : Statement (.atanP3l8 a) :=
  (rfl : decode ⟨0xF9, a, 0, 0⟩ = .ok (.atanP3l8 a))

theorem atanP4 (a : Word) : Statement (.atanP4 a) :=
  (rfl : decode ⟨0xFA, a, 0, 0⟩ = .ok (.atanP4 a))

end Sys2Proof.Laws.DecodeEncode

namespace Sys2Proof.Laws.EncodeFormat

/-- The opcode of an instruction is assigned, and its command leaves the words its format does not read zero
(30_encoding.md R61, R65, R70). -/
def Statement (i : Instr) : Prop := (encode i).assigned = true ∧ (encode i).padded = true

theorem fromintQ32 (a : Word) : Statement (.fromintQ32 a) :=
  ⟨(rfl : (opcodeFormat 0x00).isSome = true), (rfl : Command.padded ⟨0x00, a, 0, 0⟩ = true)⟩

theorem fromfloatQ32 (a : Word) : Statement (.fromfloatQ32 a) :=
  ⟨(rfl : (opcodeFormat 0x01).isSome = true), (rfl : Command.padded ⟨0x01, a, 0, 0⟩ = true)⟩

theorem fromdoubleQ32 (a : Word) : Statement (.fromdoubleQ32 a) :=
  ⟨(rfl : (opcodeFormat 0x02).isSome = true), (rfl : Command.padded ⟨0x02, a, 0, 0⟩ = true)⟩

theorem todoubleQ32 (a : Word) : Statement (.todoubleQ32 a) :=
  ⟨(rfl : (opcodeFormat 0x03).isSome = true), (rfl : Command.padded ⟨0x03, a, 0, 0⟩ = true)⟩

theorem tofloatQ32 (a : Word) : Statement (.tofloatQ32 a) :=
  ⟨(rfl : (opcodeFormat 0x04).isSome = true), (rfl : Command.padded ⟨0x04, a, 0, 0⟩ = true)⟩

theorem floortointQ32 (a : Word) : Statement (.floortointQ32 a) :=
  ⟨(rfl : (opcodeFormat 0x05).isSome = true), (rfl : Command.padded ⟨0x05, a, 0, 0⟩ = true)⟩

theorem ceiltointQ32 (a : Word) : Statement (.ceiltointQ32 a) :=
  ⟨(rfl : (opcodeFormat 0x06).isSome = true), (rfl : Command.padded ⟨0x06, a, 0, 0⟩ = true)⟩

theorem roundtointQ32 (a : Word) : Statement (.roundtointQ32 a) :=
  ⟨(rfl : (opcodeFormat 0x07).isSome = true), (rfl : Command.padded ⟨0x07, a, 0, 0⟩ = true)⟩

theorem addQ32 (a b : Word) : Statement (.addQ32 a b) :=
  ⟨(rfl : (opcodeFormat 0x08).isSome = true), (rfl : Command.padded ⟨0x08, a, b, 0⟩ = true)⟩

theorem subQ32 (a b : Word) : Statement (.subQ32 a b) :=
  ⟨(rfl : (opcodeFormat 0x09).isSome = true), (rfl : Command.padded ⟨0x09, a, b, 0⟩ = true)⟩

theorem mulQ32 (a b : Word) : Statement (.mulQ32 a b) :=
  ⟨(rfl : (opcodeFormat 0x0A).isSome = true), (rfl : Command.padded ⟨0x0A, a, b, 0⟩ = true)⟩

theorem divQ32 (a b : Word) : Statement (.divQ32 a b) :=
  ⟨(rfl : (opcodeFormat 0x0C).isSome = true), (rfl : Command.padded ⟨0x0C, a, b, 0⟩ = true)⟩

theorem divfastQ32 (a b : Word) : Statement (.divfastQ32 a b) :=
  ⟨(rfl : (opcodeFormat 0x0D).isSome = true), (rfl : Command.padded ⟨0x0D, a, b, 0⟩ = true)⟩

theorem divfastestQ32 (a b : Word) : Statement (.divfastestQ32 a b) :=
  ⟨(rfl : (opcodeFormat 0x0E).isSome = true), (rfl : Command.padded ⟨0x0E, a, b, 0⟩ = true)⟩

theorem divpreciseQ32 (a b : Word) : Statement (.divpreciseQ32 a b) :=
  ⟨(rfl : (opcodeFormat 0x0F).isSome = true), (rfl : Command.padded ⟨0x0F, a, b, 0⟩ = true)⟩

theorem ceilQ32 (a : Word) : Statement (.ceilQ32 a) :=
  ⟨(rfl : (opcodeFormat 0x10).isSome = true), (rfl : Command.padded ⟨0x10, a, 0, 0⟩ = true)⟩

theorem floorQ32 (a : Word) : Statement (.floorQ32 a) :=
  ⟨(rfl : (opcodeFormat 0x11).isSome = true), (rfl : Command.padded ⟨0x11, a, 0, 0⟩ = true)⟩

theorem roundQ32 (a : Word) : Statement (.roundQ32 a) :=
  ⟨(rfl : (opcodeFormat 0x12).isSome = true), (rfl : Command.padded ⟨0x12, a, 0, 0⟩ = true)⟩

theorem fractQ32 (a : Word) : Statement (.fractQ32 a) :=
  ⟨(rfl : (opcodeFormat 0x13).isSome = true), (rfl : Command.padded ⟨0x13, a, 0, 0⟩ = true)⟩

theorem modQ32 (a b : Word) : Statement (.modQ32 a b) :=
  ⟨(rfl : (opcodeFormat 0x14).isSome = true), (rfl : Command.padded ⟨0x14, a, b, 0⟩ = true)⟩

theorem minQ32 (a b : Word) : Statement (.minQ32 a b) :=
  ⟨(rfl : (opcodeFormat 0x15).isSome = true), (rfl : Command.padded ⟨0x15, a, b, 0⟩ = true)⟩

theorem maxQ32 (a b : Word) : Statement (.maxQ32 a b) :=
  ⟨(rfl : (opcodeFormat 0x16).isSome = true), (rfl : Command.padded ⟨0x16, a, b, 0⟩ = true)⟩

theorem clampQ32 (a b c : Word) : Statement (.clampQ32 a b c) :=
  ⟨(rfl : (opcodeFormat 0x17).isSome = true), (rfl : Command.padded ⟨0x17, a, b, c⟩ = true)⟩

theorem lerpQ32 (a b c : Word) : Statement (.lerpQ32 a b c) :=
  ⟨(rfl : (opcodeFormat 0x18).isSome = true), (rfl : Command.padded ⟨0x18, a, b, c⟩ = true)⟩

theorem rcpQ32 (a : Word) : Statement (.rcpQ32 a) :=
  ⟨(rfl : (opcodeFormat 0x20).isSome = true), (rfl : Command.padded ⟨0x20, a, 0, 0⟩ = true)⟩

theorem rcpfastQ32 (a : Word) : Statement (.rcpfastQ32 a) :=
  ⟨(rfl : (opcodeFormat 0x21).isSome = true), (rfl : Command.padded ⟨0x21, a, 0, 0⟩ = true)⟩

theorem rcpfastestQ32 (a : Word) : Statement (.rcpfastestQ32 a) :=
  ⟨(rfl : (opcodeFormat 0x22).isSome = true), (rfl : Command.padded ⟨0x22, a, 0, 0⟩ = true)⟩

theorem sqrtQ32 (a : Word) : Statement (.sqrtQ32 a) :=
  ⟨(rfl : (opcodeFormat 0x24).isSome = true), (rfl : Command.padded ⟨0x24, a, 0, 0⟩ = true)⟩

theorem sqrtfastQ32 (a : Word) : Statement (.sqrtfastQ32 a) :=
  ⟨(rfl : (opcodeFormat 0x25).isSome = true), (rfl : Command.padded ⟨0x25, a, 0, 0⟩ = true)⟩

theorem sqrtfastestQ32 (a : Word) : Statement (.sqrtfastestQ32 a) :=
  ⟨(rfl : (opcodeFormat 0x26).isSome = true), (rfl : Command.padded ⟨0x26, a, 0, 0⟩ = true)⟩

theorem rsqrtQ32 (a : Word) : Statement (.rsqrtQ32 a) :=
  ⟨(rfl : (opcodeFormat 0x28).isSome = true), (rfl : Command.padded ⟨0x28, a, 0, 0⟩ = true)⟩

theorem rsqrtfastQ32 (a : Word) : Statement (.rsqrtfastQ32 a) :=
  ⟨(rfl : (opcodeFormat 0x29).isSome = true), (rfl : Command.padded ⟨0x29, a, 0, 0⟩ = true)⟩

theorem rsqrtfastestQ32 (a : Word) : Statement (.rsqrtfastestQ32 a) :=
  ⟨(rfl : (opcodeFormat 0x2A).isSome = true), (rfl : Command.padded ⟨0x2A, a, 0, 0⟩ = true)⟩

theorem expQ32 (a : Word) : Statement (.expQ32 a) :=
  ⟨(rfl : (opcodeFormat 0x30).isSome = true), (rfl : Command.padded ⟨0x30, a, 0, 0⟩ = true)⟩

theorem expfastQ32 (a : Word) : Statement (.expfastQ32 a) :=
  ⟨(rfl : (opcodeFormat 0x31).isSome = true), (rfl : Command.padded ⟨0x31, a, 0, 0⟩ = true)⟩

theorem expfastestQ32 (a : Word) : Statement (.expfastestQ32 a) :=
  ⟨(rfl : (opcodeFormat 0x32).isSome = true), (rfl : Command.padded ⟨0x32, a, 0, 0⟩ = true)⟩

theorem exp2Q32 (a : Word) : Statement (.exp2Q32 a) :=
  ⟨(rfl : (opcodeFormat 0x34).isSome = true), (rfl : Command.padded ⟨0x34, a, 0, 0⟩ = true)⟩

theorem exp2fastQ32 (a : Word) : Statement (.exp2fastQ32 a) :=
  ⟨(rfl : (opcodeFormat 0x35).isSome = true), (rfl : Command.padded ⟨0x35, a, 0, 0⟩ = true)⟩

theorem exp2fastestQ32 (a : Word) : Statement (.exp2fastestQ32 a) :=
  ⟨(rfl : (opcodeFormat 0x36).isSome = true), (rfl : Command.padded ⟨0x36, a, 0, 0⟩ = true)⟩

theorem logQ32 (a : Word) : Statement (.logQ32 a) :=
  ⟨(rfl : (opcodeFormat 0x38).isSome = true), (rfl : Command.padded ⟨0x38, a, 0, 0⟩ = true)⟩

theorem logfastQ32 (a : Word) : Statement (.logfastQ32 a) :=
  ⟨(rfl : (opcodeFormat 0x39).isSome = true), (rfl : Command.padded ⟨0x39, a, 0, 0⟩ = true)⟩

theorem logfastestQ32 (a : Word) : Statement (.logfastestQ32 a) :=
  ⟨(rfl : (opcodeFormat 0x3A).isSome = true), (rfl : Command.padded ⟨0x3A, a, 0, 0⟩ = true)⟩

theorem log2Q32 (a : Word) : Statement (.log2Q32 a) :=
  ⟨(rfl : (opcodeFormat 0x3C).isSome = true), (rfl : Command.padded ⟨0x3C, a, 0, 0⟩ = true)⟩

theorem log2fastQ32 (a : Word) : Statement (.log2fastQ32 a) :=
  ⟨(rfl : (opcodeFormat 0x3D).isSome = true), (rfl : Command.padded ⟨0x3D, a, 0, 0⟩ = true)⟩

theorem log2fastestQ32 (a : Word) : Statement (.log2fastestQ32 a) :=
  ⟨(rfl : (opcodeFormat 0x3E).isSome = true), (rfl : Command.padded ⟨0x3E, a, 0, 0⟩ = true)⟩

theorem powQ32 (a b : Word) : Statement (.powQ32 a b) :=
  ⟨(rfl : (opcodeFormat 0x40).isSome = true), (rfl : Command.padded ⟨0x40, a, b, 0⟩ = true)⟩

theorem powfastQ32 (a b : Word) : Statement (.powfastQ32 a b) :=
  ⟨(rfl : (opcodeFormat 0x41).isSome = true), (rfl : Command.padded ⟨0x41, a, b, 0⟩ = true)⟩

theorem powfastestQ32 (a b : Word) : Statement (.powfastestQ32 a b) :=
  ⟨(rfl : (opcodeFormat 0x42).isSome = true), (rfl : Command.padded ⟨0x42, a, b, 0⟩ = true)⟩

theorem sinQ32 (a : Word) : Statement (.sinQ32 a) :=
  ⟨(rfl : (opcodeFormat 0x44).isSome = true), (rfl : Command.padded ⟨0x44, a, 0, 0⟩ = true)⟩

theorem sinfastQ32 (a : Word) : Statement (.sinfastQ32 a) :=
  ⟨(rfl : (opcodeFormat 0x45).isSome = true), (rfl : Command.padded ⟨0x45, a, 0, 0⟩ = true)⟩

theorem sinfastestQ32 (a : Word) : Statement (.sinfastestQ32 a) :=
  ⟨(rfl : (opcodeFormat 0x46).isSome = true), (rfl : Command.padded ⟨0x46, a, 0, 0⟩ = true)⟩

theorem cosQ32 (a : Word) : Statement (.cosQ32 a) :=
  ⟨(rfl : (opcodeFormat 0x48).isSome = true), (rfl : Command.padded ⟨0x48, a, 0, 0⟩ = true)⟩

theorem cosfastQ32 (a : Word) : Statement (.cosfastQ32 a) :=
  ⟨(rfl : (opcodeFormat 0x49).isSome = true), (rfl : Command.padded ⟨0x49, a, 0, 0⟩ = true)⟩

theorem cosfastestQ32 (a : Word) : Statement (.cosfastestQ32 a) :=
  ⟨(rfl : (opcodeFormat 0x4A).isSome = true), (rfl : Command.padded ⟨0x4A, a, 0, 0⟩ = true)⟩

theorem tanQ32 (a : Word) : Statement (.tanQ32 a) :=
  ⟨(rfl : (opcodeFormat 0x4C).isSome = true), (rfl : Command.padded ⟨0x4C, a, 0, 0⟩ = true)⟩

theorem tanfastQ32 (a : Word) : Statement (.tanfastQ32 a) :=
  ⟨(rfl : (opcodeFormat 0x4D).isSome = true), (rfl : Command.padded ⟨0x4D, a, 0, 0⟩ = true)⟩

theorem tanfastestQ32 (a : Word) : Statement (.tanfastestQ32 a) :=
  ⟨(rfl : (opcodeFormat 0x4E).isSome = true), (rfl : Command.padded ⟨0x4E, a, 0, 0⟩ = true)⟩

theorem asinQ32 (a : Word) : Statement (.asinQ32 a) :=
  ⟨(rfl : (opcodeFormat 0x50).isSome = true), (rfl : Command.padded ⟨0x50, a, 0, 0⟩ = true)⟩

theorem asinfastQ32 (a : Word) : Statement (.asinfastQ32 a) :=
  ⟨(rfl : (opcodeFormat 0x51).isSome = true), (rfl : Command.padded ⟨0x51, a, 0, 0⟩ = true)⟩

theorem asinfastestQ32 (a : Word) : Statement (.asinfastestQ32 a) :=
  ⟨(rfl : (opcodeFormat 0x52).isSome = true), (rfl : Command.padded ⟨0x52, a, 0, 0⟩ = true)⟩

theorem acosQ32 (a : Word) : Statement (.acosQ32 a) :=
  ⟨(rfl : (opcodeFormat 0x54).isSome = true), (rfl : Command.padded ⟨0x54, a, 0, 0⟩ = true)⟩

theorem acosfastQ32 (a : Word) : Statement (.acosfastQ32 a) :=
  ⟨(rfl : (opcodeFormat 0x55).isSome = true), (rfl : Command.padded ⟨0x55, a, 0, 0⟩ = true)⟩

theorem acosfastestQ32 (a : Word) : Statement (.acosfastestQ32 a) :=
  ⟨(rfl : (opcodeFormat 0x56).isSome = true), (rfl : Command.padded ⟨0x56, a, 0, 0⟩ = true)⟩

theorem atanQ32 (a : Word) : Statement (.atanQ32 a) :=
  ⟨(rfl : (opcodeFormat 0x58).isSome = true), (rfl : Command.padded ⟨0x58, a, 0, 0⟩ = true)⟩

theorem atanfastQ32 (a : Word) : Statement (.atanfastQ32 a) :=
  ⟨(rfl : (opcodeFormat 0x59).isSome = true), (rfl : Command.padded ⟨0x59, a, 0, 0⟩ = true)⟩

theorem atanfastestQ32 (a : Word) : Statement (.atanfastestQ32 a) :=
  ⟨(rfl : (opcodeFormat 0x5A).isSome = true), (rfl : Command.padded ⟨0x5A, a, 0, 0⟩ = true)⟩

theorem atan2Q32 (a b : Word) : Statement (.atan2Q32 a b) :=
  ⟨(rfl : (opcodeFormat 0x5C).isSome = true), (rfl : Command.padded ⟨0x5C, a, b, 0⟩ = true)⟩

theorem atan2fastQ32 (a b : Word) : Statement (.atan2fastQ32 a b) :=
  ⟨(rfl : (opcodeFormat 0x5D).isSome = true), (rfl : Command.padded ⟨0x5D, a, b, 0⟩ = true)⟩

theorem atan2fastestQ32 (a b : Word) : Statement (.atan2fastestQ32 a b) :=
  ⟨(rfl : (opcodeFormat 0x5E).isSome = true), (rfl : Command.padded ⟨0x5E, a, b, 0⟩ = true)⟩

theorem clzW32 (a : Word) : Statement (.clzW32 a) :=
  ⟨(rfl : (opcodeFormat 0x60).isSome = true), (rfl : Command.padded ⟨0x60, a, 0, 0⟩ = true)⟩

theorem clzW64 (a : Word) : Statement (.clzW64 a) :=
  ⟨(rfl : (opcodeFormat 0x61).isSome = true), (rfl : Command.padded ⟨0x61, a, 0, 0⟩ = true)⟩

theorem shrW32 (a b : Word) : Statement (.shrW32 a b) :=
  ⟨(rfl : (opcodeFormat 0x62).isSome = true), (rfl : Command.padded ⟨0x62, a, b, 0⟩ = true)⟩

theorem shrW64 (a b : Word) : Statement (.shrW64 a b) :=
  ⟨(rfl : (opcodeFormat 0x63).isSome = true), (rfl : Command.padded ⟨0x63, a, b, 0⟩ = true)⟩

theorem lshrW64 (a b : Word) : Statement (.lshrW64 a b) :=
  ⟨(rfl : (opcodeFormat 0x64).isSome = true), (rfl : Command.padded ⟨0x64, a, b, 0⟩ = true)⟩

theorem qmul30 (a b : Word) : Statement (.qmul30 a b) :=
  ⟨(rfl : (opcodeFormat 0x65).isSome = true), (rfl : Command.padded ⟨0x65, a, b, 0⟩ = true)⟩

theorem fromintQ16 (a : Word) : Statement (.fromintQ16 a) :=
  ⟨(rfl : (opcodeFormat 0x80).isSome = true), (rfl : Command.padded ⟨0x80, a, 0, 0⟩ = true)⟩

theorem fromfloatQ16 (a : Word) : Statement (.fromfloatQ16 a) :=
  ⟨(rfl : (opcodeFormat 0x81).isSome = true), (rfl : Command.padded ⟨0x81, a, 0, 0⟩ = true)⟩

theorem fromdoubleQ16 (a : Word) : Statement (.fromdoubleQ16 a) :=
  ⟨(rfl : (opcodeFormat 0x82).isSome = true), (rfl : Command.padded ⟨0x82, a, 0, 0⟩ = true)⟩

theorem todoubleQ16 (a : Word) : Statement (.todoubleQ16 a) :=
  ⟨(rfl : (opcodeFormat 0x83).isSome = true), (rfl : Command.padded ⟨0x83, a, 0, 0⟩ = true)⟩

theorem tofloatQ16 (a : Word) : Statement (.tofloatQ16 a) :=
  ⟨(rfl : (opcodeFormat 0x84).isSome = true), (rfl : Command.padded ⟨0x84, a, 0, 0⟩ = true)⟩

theorem floortointQ16 (a : Word) : Statement (.floortointQ16 a) :=
  ⟨(rfl : (opcodeFormat 0x85).isSome = true), (rfl : Command.padded ⟨0x85, a, 0, 0⟩ = true)⟩

theorem ceiltointQ16 (a : Word) : Statement (.ceiltointQ16 a) :=
  ⟨(rfl : (opcodeFormat 0x86).isSome = true), (rfl : Command.padded ⟨0x86, a, 0, 0⟩ = true)⟩

theorem roundtointQ16 (a : Word) : Statement (.roundtointQ16 a) :=
  ⟨(rfl : (opcodeFormat 0x87).isSome = true), (rfl : Command.padded ⟨0x87, a, 0, 0⟩ = true)⟩

theorem addQ16 (a b : Word) : Statement (.addQ16 a b) :=
  ⟨(rfl : (opcodeFormat 0x88).isSome = true), (rfl : Command.padded ⟨0x88, a, b, 0⟩ = true)⟩

theorem subQ16 (a b : Word) : Statement (.subQ16 a b) :=
  ⟨(rfl : (opcodeFormat 0x89).isSome = true), (rfl : Command.padded ⟨0x89, a, b, 0⟩ = true)⟩

theorem mulQ16 (a b : Word) : Statement (.mulQ16 a b) :=
  ⟨(rfl : (opcodeFormat 0x8A).isSome = true), (rfl : Command.padded ⟨0x8A, a, b, 0⟩ = true)⟩

theorem divQ16 (a b : Word) : Statement (.divQ16 a b) :=
  ⟨(rfl : (opcodeFormat 0x8C).isSome = true), (rfl : Command.padded ⟨0x8C, a, b, 0⟩ = true)⟩

theorem divfastQ16 (a b : Word) : Statement (.divfastQ16 a b) :=
  ⟨(rfl : (opcodeFormat 0x8D).isSome = true), (rfl : Command.padded ⟨0x8D, a, b, 0⟩ = true)⟩

theorem divfastestQ16 (a b : Word) : Statement (.divfastestQ16 a b) :=
  ⟨(rfl : (opcodeFormat 0x8E).isSome = true), (rfl : Command.padded ⟨0x8E, a, b, 0⟩ = true)⟩

theorem divpreciseQ16 (a b : Word) : Statement (.divpreciseQ16 a b) :=
  ⟨(rfl : (opcodeFormat 0x8F).isSome = true), (rfl : Command.padded ⟨0x8F, a, b, 0⟩ = true)⟩

theorem ceilQ16 (a : Word) : Statement (.ceilQ16 a) :=
  ⟨(rfl : (opcodeFormat 0x90).isSome = true), (rfl : Command.padded ⟨0x90, a, 0, 0⟩ = true)⟩

theorem floorQ16 (a : Word) : Statement (.floorQ16 a) :=
  ⟨(rfl : (opcodeFormat 0x91).isSome = true), (rfl : Command.padded ⟨0x91, a, 0, 0⟩ = true)⟩

theorem roundQ16 (a : Word) : Statement (.roundQ16 a) :=
  ⟨(rfl : (opcodeFormat 0x92).isSome = true), (rfl : Command.padded ⟨0x92, a, 0, 0⟩ = true)⟩

theorem fractQ16 (a : Word) : Statement (.fractQ16 a) :=
  ⟨(rfl : (opcodeFormat 0x93).isSome = true), (rfl : Command.padded ⟨0x93, a, 0, 0⟩ = true)⟩

theorem modQ16 (a b : Word) : Statement (.modQ16 a b) :=
  ⟨(rfl : (opcodeFormat 0x94).isSome = true), (rfl : Command.padded ⟨0x94, a, b, 0⟩ = true)⟩

theorem minQ16 (a b : Word) : Statement (.minQ16 a b) :=
  ⟨(rfl : (opcodeFormat 0x95).isSome = true), (rfl : Command.padded ⟨0x95, a, b, 0⟩ = true)⟩

theorem maxQ16 (a b : Word) : Statement (.maxQ16 a b) :=
  ⟨(rfl : (opcodeFormat 0x96).isSome = true), (rfl : Command.padded ⟨0x96, a, b, 0⟩ = true)⟩

theorem clampQ16 (a b c : Word) : Statement (.clampQ16 a b c) :=
  ⟨(rfl : (opcodeFormat 0x97).isSome = true), (rfl : Command.padded ⟨0x97, a, b, c⟩ = true)⟩

theorem lerpQ16 (a b c : Word) : Statement (.lerpQ16 a b c) :=
  ⟨(rfl : (opcodeFormat 0x98).isSome = true), (rfl : Command.padded ⟨0x98, a, b, c⟩ = true)⟩

theorem rcpQ16 (a : Word) : Statement (.rcpQ16 a) :=
  ⟨(rfl : (opcodeFormat 0xA0).isSome = true), (rfl : Command.padded ⟨0xA0, a, 0, 0⟩ = true)⟩

theorem rcpfastQ16 (a : Word) : Statement (.rcpfastQ16 a) :=
  ⟨(rfl : (opcodeFormat 0xA1).isSome = true), (rfl : Command.padded ⟨0xA1, a, 0, 0⟩ = true)⟩

theorem rcpfastestQ16 (a : Word) : Statement (.rcpfastestQ16 a) :=
  ⟨(rfl : (opcodeFormat 0xA2).isSome = true), (rfl : Command.padded ⟨0xA2, a, 0, 0⟩ = true)⟩

theorem sqrtQ16 (a : Word) : Statement (.sqrtQ16 a) :=
  ⟨(rfl : (opcodeFormat 0xA4).isSome = true), (rfl : Command.padded ⟨0xA4, a, 0, 0⟩ = true)⟩

theorem sqrtfastQ16 (a : Word) : Statement (.sqrtfastQ16 a) :=
  ⟨(rfl : (opcodeFormat 0xA5).isSome = true), (rfl : Command.padded ⟨0xA5, a, 0, 0⟩ = true)⟩

theorem sqrtfastestQ16 (a : Word) : Statement (.sqrtfastestQ16 a) :=
  ⟨(rfl : (opcodeFormat 0xA6).isSome = true), (rfl : Command.padded ⟨0xA6, a, 0, 0⟩ = true)⟩

theorem rsqrtQ16 (a : Word) : Statement (.rsqrtQ16 a) :=
  ⟨(rfl : (opcodeFormat 0xA8).isSome = true), (rfl : Command.padded ⟨0xA8, a, 0, 0⟩ = true)⟩

theorem rsqrtfastQ16 (a : Word) : Statement (.rsqrtfastQ16 a) :=
  ⟨(rfl : (opcodeFormat 0xA9).isSome = true), (rfl : Command.padded ⟨0xA9, a, 0, 0⟩ = true)⟩

theorem rsqrtfastestQ16 (a : Word) : Statement (.rsqrtfastestQ16 a) :=
  ⟨(rfl : (opcodeFormat 0xAA).isSome = true), (rfl : Command.padded ⟨0xAA, a, 0, 0⟩ = true)⟩

theorem expQ16 (a : Word) : Statement (.expQ16 a) :=
  ⟨(rfl : (opcodeFormat 0xB0).isSome = true), (rfl : Command.padded ⟨0xB0, a, 0, 0⟩ = true)⟩

theorem expfastQ16 (a : Word) : Statement (.expfastQ16 a) :=
  ⟨(rfl : (opcodeFormat 0xB1).isSome = true), (rfl : Command.padded ⟨0xB1, a, 0, 0⟩ = true)⟩

theorem expfastestQ16 (a : Word) : Statement (.expfastestQ16 a) :=
  ⟨(rfl : (opcodeFormat 0xB2).isSome = true), (rfl : Command.padded ⟨0xB2, a, 0, 0⟩ = true)⟩

theorem exp2Q16 (a : Word) : Statement (.exp2Q16 a) :=
  ⟨(rfl : (opcodeFormat 0xB4).isSome = true), (rfl : Command.padded ⟨0xB4, a, 0, 0⟩ = true)⟩

theorem exp2fastQ16 (a : Word) : Statement (.exp2fastQ16 a) :=
  ⟨(rfl : (opcodeFormat 0xB5).isSome = true), (rfl : Command.padded ⟨0xB5, a, 0, 0⟩ = true)⟩

theorem exp2fastestQ16 (a : Word) : Statement (.exp2fastestQ16 a) :=
  ⟨(rfl : (opcodeFormat 0xB6).isSome = true), (rfl : Command.padded ⟨0xB6, a, 0, 0⟩ = true)⟩

theorem logQ16 (a : Word) : Statement (.logQ16 a) :=
  ⟨(rfl : (opcodeFormat 0xB8).isSome = true), (rfl : Command.padded ⟨0xB8, a, 0, 0⟩ = true)⟩

theorem logfastQ16 (a : Word) : Statement (.logfastQ16 a) :=
  ⟨(rfl : (opcodeFormat 0xB9).isSome = true), (rfl : Command.padded ⟨0xB9, a, 0, 0⟩ = true)⟩

theorem logfastestQ16 (a : Word) : Statement (.logfastestQ16 a) :=
  ⟨(rfl : (opcodeFormat 0xBA).isSome = true), (rfl : Command.padded ⟨0xBA, a, 0, 0⟩ = true)⟩

theorem log2Q16 (a : Word) : Statement (.log2Q16 a) :=
  ⟨(rfl : (opcodeFormat 0xBC).isSome = true), (rfl : Command.padded ⟨0xBC, a, 0, 0⟩ = true)⟩

theorem log2fastQ16 (a : Word) : Statement (.log2fastQ16 a) :=
  ⟨(rfl : (opcodeFormat 0xBD).isSome = true), (rfl : Command.padded ⟨0xBD, a, 0, 0⟩ = true)⟩

theorem log2fastestQ16 (a : Word) : Statement (.log2fastestQ16 a) :=
  ⟨(rfl : (opcodeFormat 0xBE).isSome = true), (rfl : Command.padded ⟨0xBE, a, 0, 0⟩ = true)⟩

theorem powQ16 (a b : Word) : Statement (.powQ16 a b) :=
  ⟨(rfl : (opcodeFormat 0xC0).isSome = true), (rfl : Command.padded ⟨0xC0, a, b, 0⟩ = true)⟩

theorem powfastQ16 (a b : Word) : Statement (.powfastQ16 a b) :=
  ⟨(rfl : (opcodeFormat 0xC1).isSome = true), (rfl : Command.padded ⟨0xC1, a, b, 0⟩ = true)⟩

theorem powfastestQ16 (a b : Word) : Statement (.powfastestQ16 a b) :=
  ⟨(rfl : (opcodeFormat 0xC2).isSome = true), (rfl : Command.padded ⟨0xC2, a, b, 0⟩ = true)⟩

theorem sinQ16 (a : Word) : Statement (.sinQ16 a) :=
  ⟨(rfl : (opcodeFormat 0xC4).isSome = true), (rfl : Command.padded ⟨0xC4, a, 0, 0⟩ = true)⟩

theorem sinfastQ16 (a : Word) : Statement (.sinfastQ16 a) :=
  ⟨(rfl : (opcodeFormat 0xC5).isSome = true), (rfl : Command.padded ⟨0xC5, a, 0, 0⟩ = true)⟩

theorem sinfastestQ16 (a : Word) : Statement (.sinfastestQ16 a) :=
  ⟨(rfl : (opcodeFormat 0xC6).isSome = true), (rfl : Command.padded ⟨0xC6, a, 0, 0⟩ = true)⟩

theorem cosQ16 (a : Word) : Statement (.cosQ16 a) :=
  ⟨(rfl : (opcodeFormat 0xC8).isSome = true), (rfl : Command.padded ⟨0xC8, a, 0, 0⟩ = true)⟩

theorem cosfastQ16 (a : Word) : Statement (.cosfastQ16 a) :=
  ⟨(rfl : (opcodeFormat 0xC9).isSome = true), (rfl : Command.padded ⟨0xC9, a, 0, 0⟩ = true)⟩

theorem cosfastestQ16 (a : Word) : Statement (.cosfastestQ16 a) :=
  ⟨(rfl : (opcodeFormat 0xCA).isSome = true), (rfl : Command.padded ⟨0xCA, a, 0, 0⟩ = true)⟩

theorem tanQ16 (a : Word) : Statement (.tanQ16 a) :=
  ⟨(rfl : (opcodeFormat 0xCC).isSome = true), (rfl : Command.padded ⟨0xCC, a, 0, 0⟩ = true)⟩

theorem tanfastQ16 (a : Word) : Statement (.tanfastQ16 a) :=
  ⟨(rfl : (opcodeFormat 0xCD).isSome = true), (rfl : Command.padded ⟨0xCD, a, 0, 0⟩ = true)⟩

theorem tanfastestQ16 (a : Word) : Statement (.tanfastestQ16 a) :=
  ⟨(rfl : (opcodeFormat 0xCE).isSome = true), (rfl : Command.padded ⟨0xCE, a, 0, 0⟩ = true)⟩

theorem asinQ16 (a : Word) : Statement (.asinQ16 a) :=
  ⟨(rfl : (opcodeFormat 0xD0).isSome = true), (rfl : Command.padded ⟨0xD0, a, 0, 0⟩ = true)⟩

theorem asinfastQ16 (a : Word) : Statement (.asinfastQ16 a) :=
  ⟨(rfl : (opcodeFormat 0xD1).isSome = true), (rfl : Command.padded ⟨0xD1, a, 0, 0⟩ = true)⟩

theorem asinfastestQ16 (a : Word) : Statement (.asinfastestQ16 a) :=
  ⟨(rfl : (opcodeFormat 0xD2).isSome = true), (rfl : Command.padded ⟨0xD2, a, 0, 0⟩ = true)⟩

theorem acosQ16 (a : Word) : Statement (.acosQ16 a) :=
  ⟨(rfl : (opcodeFormat 0xD4).isSome = true), (rfl : Command.padded ⟨0xD4, a, 0, 0⟩ = true)⟩

theorem acosfastQ16 (a : Word) : Statement (.acosfastQ16 a) :=
  ⟨(rfl : (opcodeFormat 0xD5).isSome = true), (rfl : Command.padded ⟨0xD5, a, 0, 0⟩ = true)⟩

theorem acosfastestQ16 (a : Word) : Statement (.acosfastestQ16 a) :=
  ⟨(rfl : (opcodeFormat 0xD6).isSome = true), (rfl : Command.padded ⟨0xD6, a, 0, 0⟩ = true)⟩

theorem atanQ16 (a : Word) : Statement (.atanQ16 a) :=
  ⟨(rfl : (opcodeFormat 0xD8).isSome = true), (rfl : Command.padded ⟨0xD8, a, 0, 0⟩ = true)⟩

theorem atanfastQ16 (a : Word) : Statement (.atanfastQ16 a) :=
  ⟨(rfl : (opcodeFormat 0xD9).isSome = true), (rfl : Command.padded ⟨0xD9, a, 0, 0⟩ = true)⟩

theorem atanfastestQ16 (a : Word) : Statement (.atanfastestQ16 a) :=
  ⟨(rfl : (opcodeFormat 0xDA).isSome = true), (rfl : Command.padded ⟨0xDA, a, 0, 0⟩ = true)⟩

theorem atan2Q16 (a b : Word) : Statement (.atan2Q16 a b) :=
  ⟨(rfl : (opcodeFormat 0xDC).isSome = true), (rfl : Command.padded ⟨0xDC, a, b, 0⟩ = true)⟩

theorem atan2fastQ16 (a b : Word) : Statement (.atan2fastQ16 a b) :=
  ⟨(rfl : (opcodeFormat 0xDD).isSome = true), (rfl : Command.padded ⟨0xDD, a, b, 0⟩ = true)⟩

theorem atan2fastestQ16 (a b : Word) : Statement (.atan2fastestQ16 a b) :=
  ⟨(rfl : (opcodeFormat 0xDE).isSome = true), (rfl : Command.padded ⟨0xDE, a, b, 0⟩ = true)⟩

theorem rcpP4l8 (a : Word) : Statement (.rcpP4l8 a) :=
  ⟨(rfl : (opcodeFormat 0xE0).isSome = true), (rfl : Command.padded ⟨0xE0, a, 0, 0⟩ = true)⟩

theorem rcpP6 (a : Word) : Statement (.rcpP6 a) :=
  ⟨(rfl : (opcodeFormat 0xE1).isSome = true), (rfl : Command.padded ⟨0xE1, a, 0, 0⟩ = true)⟩

theorem rcpP4 (a : Word) : Statement (.rcpP4 a) :=
  ⟨(rfl : (opcodeFormat 0xE2).isSome = true), (rfl : Command.padded ⟨0xE2, a, 0, 0⟩ = true)⟩

theorem sqrtP3l8 (a : Word) : Statement (.sqrtP3l8 a) :=
  ⟨(rfl : (opcodeFormat 0xE4).isSome = true), (rfl : Command.padded ⟨0xE4, a, 0, 0⟩ = true)⟩

theorem sqrtP4 (a : Word) : Statement (.sqrtP4 a) :=
  ⟨(rfl : (opcodeFormat 0xE5).isSome = true), (rfl : Command.padded ⟨0xE5, a, 0, 0⟩ = true)⟩

theorem sqrtP3 (a : Word) : Statement (.sqrtP3 a) :=
  ⟨(rfl : (opcodeFormat 0xE6).isSome = true), (rfl : Command.padded ⟨0xE6, a, 0, 0⟩ = true)⟩

theorem rsqrtP3l16 (a : Word) : Statement (.rsqrtP3l16 a) :=
  ⟨(rfl : (opcodeFormat 0xE8).isSome = true), (rfl : Command.padded ⟨0xE8, a, 0, 0⟩ = true)⟩

theorem rsqrtP5 (a : Word) : Statement (.rsqrtP5 a) :=
  ⟨(rfl : (opcodeFormat 0xE9).isSome = true), (rfl : Command.padded ⟨0xE9, a, 0, 0⟩ = true)⟩

theorem rsqrtP3 (a : Word) : Statement (.rsqrtP3 a) :=
  ⟨(rfl : (opcodeFormat 0xEA).isSome = true), (rfl : Command.padded ⟨0xEA, a, 0, 0⟩ = true)⟩

theorem log2P5l8 (a : Word) : Statement (.log2P5l8 a) :=
  ⟨(rfl : (opcodeFormat 0xEC).isSome = true), (rfl : Command.padded ⟨0xEC, a, 0, 0⟩ = true)⟩

theorem log2P3l8 (a : Word) : Statement (.log2P3l8 a) :=
  ⟨(rfl : (opcodeFormat 0xED).isSome = true), (rfl : Command.padded ⟨0xED, a, 0, 0⟩ = true)⟩

theorem log2P5 (a : Word) : Statement (.log2P5 a) :=
  ⟨(rfl : (opcodeFormat 0xEE).isSome = true), (rfl : Command.padded ⟨0xEE, a, 0, 0⟩ = true)⟩

theorem exp2P5 (a : Word) : Statement (.exp2P5 a) :=
  ⟨(rfl : (opcodeFormat 0xF0).isSome = true), (rfl : Command.padded ⟨0xF0, a, 0, 0⟩ = true)⟩

theorem exp2P4 (a : Word) : Statement (.exp2P4 a) :=
  ⟨(rfl : (opcodeFormat 0xF1).isSome = true), (rfl : Command.padded ⟨0xF1, a, 0, 0⟩ = true)⟩

theorem exp2P3 (a : Word) : Statement (.exp2P3 a) :=
  ⟨(rfl : (opcodeFormat 0xF2).isSome = true), (rfl : Command.padded ⟨0xF2, a, 0, 0⟩ = true)⟩

theorem usinP4 (a : Word) : Statement (.usinP4 a) :=
  ⟨(rfl : (opcodeFormat 0xF4).isSome = true), (rfl : Command.padded ⟨0xF4, a, 0, 0⟩ = true)⟩

theorem usinP3 (a : Word) : Statement (.usinP3 a) :=
  ⟨(rfl : (opcodeFormat 0xF5).isSome = true), (rfl : Command.padded ⟨0xF5, a, 0, 0⟩ = true)⟩

theorem usinP2 (a : Word) : Statement (.usinP2 a) :=
  ⟨(rfl : (opcodeFormat 0xF6).isSome = true), (rfl : Command.padded ⟨0xF6, a, 0, 0⟩ = true)⟩

theorem atanP5l8 (a : Word) : Statement (.atanP5l8 a) :=
  ⟨(rfl : (opcodeFormat 0xF8).isSome = true), (rfl : Command.padded ⟨0xF8, a, 0, 0⟩ = true)⟩

theorem atanP3l8 (a : Word) : Statement (.atanP3l8 a) :=
  ⟨(rfl : (opcodeFormat 0xF9).isSome = true), (rfl : Command.padded ⟨0xF9, a, 0, 0⟩ = true)⟩

theorem atanP4 (a : Word) : Statement (.atanP4 a) :=
  ⟨(rfl : (opcodeFormat 0xFA).isSome = true), (rfl : Command.padded ⟨0xFA, a, 0, 0⟩ = true)⟩

end Sys2Proof.Laws.EncodeFormat
end

