-- ==== Sys2Proof/Machine/Flags.lean ====
section
/-! DEFINITION. The flags: none. The unit has no flag, condition code, sticky status bit or predicate; no command sets a
carry, overflow, zero, negative, inexact, invalid or divide-by-zero indication anywhere (10_state.md R26, R27), overflow
wraps silently (60_exceptions.md R462), and an invalid input shows only as the sentinel in `R` (60_exceptions.md R461).
There is therefore no flag computation to write, and `State` has no field for one. -/
end

