-- ==== Sys2Proof/Tests/Slice0.lean ====
section
/-! SUPPORT. The model's own tests: small named theorems. Expected values come from the spec: the worked examples and corner
cases of files 40 to 49 and the vectors of files 95 to 97, the ROM sums of file 42. The last section shows, for every
statement that has hypotheses, concrete operands that meet them. -/

namespace Sys2Proof.Tests

open Sys2Proof.Machine

-- One kernel check at a time: many at once exhaust the memory a command may take.
set_option Elab.async false

/-! ## Well-formedness: each check refuses an ill-formed term -/

theorem test_assigned_accepts : (Command.assigned ⟨0x24, 1, 2, 3⟩) = true := by decide +kernel

theorem test_assigned_refuses_reserved : (Command.assigned ⟨0x0B, 0, 0, 0⟩) = false := by decide +kernel

theorem test_padded_refuses_unread_b : (Command.padded ⟨0x24, 1, 2, 0⟩) = false := by decide +kernel

theorem test_padded_refuses_unread_c : (Command.padded ⟨0x08, 1, 2, 3⟩) = false := by decide +kernel

theorem test_padded_refuses_reserved_operand : (Command.padded ⟨0xFF, 1, 0, 0⟩) = false := by decide +kernel

theorem test_fitsSigned_edges :
    fitsSigned 32 2147483647 = true ∧ fitsSigned 32 2147483648 = false ∧
    fitsSigned 32 (-2147483648) = true ∧ fitsSigned 32 (-2147483649) = false := by decide

theorem test_poly_refuses_wrong_degree : Poly.wf 4 specRom.rcpP6 = false := by decide +kernel

theorem test_poly_refuses_wide_entry : Poly.wf 1 [0, 4294967296] = false := by decide +kernel

theorem test_table_refuses_missing_row : LutTable.wf 3 4 (specRom.rcpP4l8.drop 1) = false := by decide +kernel

theorem test_rom_refuses_swapped_tables :
    Rom.wf { specRom with rcpP6 := specRom.rcpP4 } = false := by decide +kernel

theorem test_constants_refuse_wide_value : KConst.wf 32 specConstQ32 = false := by decide +kernel

theorem test_specParams_wf : specParams.wf = true := by decide +kernel

theorem test_params_refuse_wide_constants :
    Params.wf { specParams with constQ16 := specConstQ32 } = false := by decide +kernel

/-! ## The ROM: the sums 42_rom_tables.md prints for its tables -/

theorem test_rom_sums_lut :
    [specRom.rcpP4l8, specRom.sqrtP3l8, specRom.rsqrtP3l16, specRom.log2P5l8, specRom.log2P3l8, specRom.atanP5l8,
      specRom.atanP3l8].map (fun t => t.flatten.sum) =
    [4237834330, 13444172427, 10357280335, 11114773718, 11391372840, 8310506056, 7619941514] := by decide +kernel

theorem test_rom_sums_plain :
    [specRom.rcpP6, specRom.rcpP4, specRom.sqrtP4, specRom.sqrtP3, specRom.rsqrtP5, specRom.rsqrtP3, specRom.log2P5,
      specRom.exp2P5, specRom.exp2P4, specRom.exp2P3, specRom.usinP4, specRom.usinP3, specRom.usinP2,
      specRom.atanP4].map List.sum =
    [536870912, 536870912, 1518500250, 1518500250, 759250125, 759250125, 1073741824, 2147483648, 2147483648,
      2147483648, 1073741824, 1073741824, 1073741824, 843314857] := by decide +kernel

/-! ## Decoding: every opcode, in a command word written out from 30_encoding.md R60 and R65 -/

/-- The 200-bit command word decodes to the instruction. -/
def decodesTo (w : CmdWord) (i : Instr) : Bool :=
  match decodeCmdWord w with
  | .ok j    => j == i
  | .error _ => false

/-- Every row's word decodes to the row's instruction. -/
def decodesAll (rows : List (CmdWord × Instr)) : Bool := rows.all (fun r => decodesTo r.1 r.2)

theorem test_decode_q32_arith : decodesAll
  [(0x00112233445566778899AABBCCDDEEFF000123456789ABCDEF, .fromintQ32 0x1122334455667788),
   (0x01112233445566778899AABBCCDDEEFF000123456789ABCDEF, .fromfloatQ32 0x1122334455667788),
   (0x02112233445566778899AABBCCDDEEFF000123456789ABCDEF, .fromdoubleQ32 0x1122334455667788),
   (0x03112233445566778899AABBCCDDEEFF000123456789ABCDEF, .todoubleQ32 0x1122334455667788),
   (0x04112233445566778899AABBCCDDEEFF000123456789ABCDEF, .tofloatQ32 0x1122334455667788),
   (0x05112233445566778899AABBCCDDEEFF000123456789ABCDEF, .floortointQ32 0x1122334455667788),
   (0x06112233445566778899AABBCCDDEEFF000123456789ABCDEF, .ceiltointQ32 0x1122334455667788),
   (0x07112233445566778899AABBCCDDEEFF000123456789ABCDEF, .roundtointQ32 0x1122334455667788),
   (0x08112233445566778899AABBCCDDEEFF000123456789ABCDEF, .addQ32 0x1122334455667788 0x99AABBCCDDEEFF00),
   (0x09112233445566778899AABBCCDDEEFF000123456789ABCDEF, .subQ32 0x1122334455667788 0x99AABBCCDDEEFF00),
   (0x0A112233445566778899AABBCCDDEEFF000123456789ABCDEF, .mulQ32 0x1122334455667788 0x99AABBCCDDEEFF00),
   (0x0C112233445566778899AABBCCDDEEFF000123456789ABCDEF, .divQ32 0x1122334455667788 0x99AABBCCDDEEFF00),
   (0x0D112233445566778899AABBCCDDEEFF000123456789ABCDEF, .divfastQ32 0x1122334455667788 0x99AABBCCDDEEFF00),
   (0x0E112233445566778899AABBCCDDEEFF000123456789ABCDEF, .divfastestQ32 0x1122334455667788 0x99AABBCCDDEEFF00),
   (0x0F112233445566778899AABBCCDDEEFF000123456789ABCDEF, .divpreciseQ32 0x1122334455667788 0x99AABBCCDDEEFF00),
   (0x10112233445566778899AABBCCDDEEFF000123456789ABCDEF, .ceilQ32 0x1122334455667788),
   (0x11112233445566778899AABBCCDDEEFF000123456789ABCDEF, .floorQ32 0x1122334455667788),
   (0x12112233445566778899AABBCCDDEEFF000123456789ABCDEF, .roundQ32 0x1122334455667788),
   (0x13112233445566778899AABBCCDDEEFF000123456789ABCDEF, .fractQ32 0x1122334455667788),
   (0x14112233445566778899AABBCCDDEEFF000123456789ABCDEF, .modQ32 0x1122334455667788 0x99AABBCCDDEEFF00),
   (0x15112233445566778899AABBCCDDEEFF000123456789ABCDEF, .minQ32 0x1122334455667788 0x99AABBCCDDEEFF00),
   (0x16112233445566778899AABBCCDDEEFF000123456789ABCDEF, .maxQ32 0x1122334455667788 0x99AABBCCDDEEFF00),
   (0x17112233445566778899AABBCCDDEEFF000123456789ABCDEF, .clampQ32 0x1122334455667788 0x99AABBCCDDEEFF00 0x123456789ABCDEF),
   (0x18112233445566778899AABBCCDDEEFF000123456789ABCDEF, .lerpQ32 0x1122334455667788 0x99AABBCCDDEEFF00 0x123456789ABCDEF)] = true := by
  decide +kernel

theorem test_decode_q32_transcendental : decodesAll
  [(0x20112233445566778899AABBCCDDEEFF000123456789ABCDEF, .rcpQ32 0x1122334455667788),
   (0x21112233445566778899AABBCCDDEEFF000123456789ABCDEF, .rcpfastQ32 0x1122334455667788),
   (0x22112233445566778899AABBCCDDEEFF000123456789ABCDEF, .rcpfastestQ32 0x1122334455667788),
   (0x24112233445566778899AABBCCDDEEFF000123456789ABCDEF, .sqrtQ32 0x1122334455667788),
   (0x25112233445566778899AABBCCDDEEFF000123456789ABCDEF, .sqrtfastQ32 0x1122334455667788),
   (0x26112233445566778899AABBCCDDEEFF000123456789ABCDEF, .sqrtfastestQ32 0x1122334455667788),
   (0x28112233445566778899AABBCCDDEEFF000123456789ABCDEF, .rsqrtQ32 0x1122334455667788),
   (0x29112233445566778899AABBCCDDEEFF000123456789ABCDEF, .rsqrtfastQ32 0x1122334455667788),
   (0x2A112233445566778899AABBCCDDEEFF000123456789ABCDEF, .rsqrtfastestQ32 0x1122334455667788),
   (0x30112233445566778899AABBCCDDEEFF000123456789ABCDEF, .expQ32 0x1122334455667788),
   (0x31112233445566778899AABBCCDDEEFF000123456789ABCDEF, .expfastQ32 0x1122334455667788),
   (0x32112233445566778899AABBCCDDEEFF000123456789ABCDEF, .expfastestQ32 0x1122334455667788),
   (0x34112233445566778899AABBCCDDEEFF000123456789ABCDEF, .exp2Q32 0x1122334455667788),
   (0x35112233445566778899AABBCCDDEEFF000123456789ABCDEF, .exp2fastQ32 0x1122334455667788),
   (0x36112233445566778899AABBCCDDEEFF000123456789ABCDEF, .exp2fastestQ32 0x1122334455667788),
   (0x38112233445566778899AABBCCDDEEFF000123456789ABCDEF, .logQ32 0x1122334455667788),
   (0x39112233445566778899AABBCCDDEEFF000123456789ABCDEF, .logfastQ32 0x1122334455667788),
   (0x3A112233445566778899AABBCCDDEEFF000123456789ABCDEF, .logfastestQ32 0x1122334455667788),
   (0x3C112233445566778899AABBCCDDEEFF000123456789ABCDEF, .log2Q32 0x1122334455667788),
   (0x3D112233445566778899AABBCCDDEEFF000123456789ABCDEF, .log2fastQ32 0x1122334455667788),
   (0x3E112233445566778899AABBCCDDEEFF000123456789ABCDEF, .log2fastestQ32 0x1122334455667788),
   (0x40112233445566778899AABBCCDDEEFF000123456789ABCDEF, .powQ32 0x1122334455667788 0x99AABBCCDDEEFF00),
   (0x41112233445566778899AABBCCDDEEFF000123456789ABCDEF, .powfastQ32 0x1122334455667788 0x99AABBCCDDEEFF00),
   (0x42112233445566778899AABBCCDDEEFF000123456789ABCDEF, .powfastestQ32 0x1122334455667788 0x99AABBCCDDEEFF00)] = true := by
  decide +kernel

theorem test_decode_q32_trig : decodesAll
  [(0x44112233445566778899AABBCCDDEEFF000123456789ABCDEF, .sinQ32 0x1122334455667788),
   (0x45112233445566778899AABBCCDDEEFF000123456789ABCDEF, .sinfastQ32 0x1122334455667788),
   (0x46112233445566778899AABBCCDDEEFF000123456789ABCDEF, .sinfastestQ32 0x1122334455667788),
   (0x48112233445566778899AABBCCDDEEFF000123456789ABCDEF, .cosQ32 0x1122334455667788),
   (0x49112233445566778899AABBCCDDEEFF000123456789ABCDEF, .cosfastQ32 0x1122334455667788),
   (0x4A112233445566778899AABBCCDDEEFF000123456789ABCDEF, .cosfastestQ32 0x1122334455667788),
   (0x4C112233445566778899AABBCCDDEEFF000123456789ABCDEF, .tanQ32 0x1122334455667788),
   (0x4D112233445566778899AABBCCDDEEFF000123456789ABCDEF, .tanfastQ32 0x1122334455667788),
   (0x4E112233445566778899AABBCCDDEEFF000123456789ABCDEF, .tanfastestQ32 0x1122334455667788),
   (0x50112233445566778899AABBCCDDEEFF000123456789ABCDEF, .asinQ32 0x1122334455667788),
   (0x51112233445566778899AABBCCDDEEFF000123456789ABCDEF, .asinfastQ32 0x1122334455667788),
   (0x52112233445566778899AABBCCDDEEFF000123456789ABCDEF, .asinfastestQ32 0x1122334455667788),
   (0x54112233445566778899AABBCCDDEEFF000123456789ABCDEF, .acosQ32 0x1122334455667788),
   (0x55112233445566778899AABBCCDDEEFF000123456789ABCDEF, .acosfastQ32 0x1122334455667788),
   (0x56112233445566778899AABBCCDDEEFF000123456789ABCDEF, .acosfastestQ32 0x1122334455667788),
   (0x58112233445566778899AABBCCDDEEFF000123456789ABCDEF, .atanQ32 0x1122334455667788),
   (0x59112233445566778899AABBCCDDEEFF000123456789ABCDEF, .atanfastQ32 0x1122334455667788),
   (0x5A112233445566778899AABBCCDDEEFF000123456789ABCDEF, .atanfastestQ32 0x1122334455667788),
   (0x5C112233445566778899AABBCCDDEEFF000123456789ABCDEF, .atan2Q32 0x1122334455667788 0x99AABBCCDDEEFF00),
   (0x5D112233445566778899AABBCCDDEEFF000123456789ABCDEF, .atan2fastQ32 0x1122334455667788 0x99AABBCCDDEEFF00),
   (0x5E112233445566778899AABBCCDDEEFF000123456789ABCDEF, .atan2fastestQ32 0x1122334455667788 0x99AABBCCDDEEFF00)] = true := by
  decide +kernel

theorem test_decode_shared_primitives : decodesAll
  [(0x60112233445566778899AABBCCDDEEFF000123456789ABCDEF, .clzW32 0x1122334455667788),
   (0x61112233445566778899AABBCCDDEEFF000123456789ABCDEF, .clzW64 0x1122334455667788),
   (0x62112233445566778899AABBCCDDEEFF000123456789ABCDEF, .shrW32 0x1122334455667788 0x99AABBCCDDEEFF00),
   (0x63112233445566778899AABBCCDDEEFF000123456789ABCDEF, .shrW64 0x1122334455667788 0x99AABBCCDDEEFF00),
   (0x64112233445566778899AABBCCDDEEFF000123456789ABCDEF, .lshrW64 0x1122334455667788 0x99AABBCCDDEEFF00),
   (0x65112233445566778899AABBCCDDEEFF000123456789ABCDEF, .qmul30 0x1122334455667788 0x99AABBCCDDEEFF00)] = true := by
  decide +kernel

theorem test_decode_q16_arith : decodesAll
  [(0x80112233445566778899AABBCCDDEEFF000123456789ABCDEF, .fromintQ16 0x1122334455667788),
   (0x81112233445566778899AABBCCDDEEFF000123456789ABCDEF, .fromfloatQ16 0x1122334455667788),
   (0x82112233445566778899AABBCCDDEEFF000123456789ABCDEF, .fromdoubleQ16 0x1122334455667788),
   (0x83112233445566778899AABBCCDDEEFF000123456789ABCDEF, .todoubleQ16 0x1122334455667788),
   (0x84112233445566778899AABBCCDDEEFF000123456789ABCDEF, .tofloatQ16 0x1122334455667788),
   (0x85112233445566778899AABBCCDDEEFF000123456789ABCDEF, .floortointQ16 0x1122334455667788),
   (0x86112233445566778899AABBCCDDEEFF000123456789ABCDEF, .ceiltointQ16 0x1122334455667788),
   (0x87112233445566778899AABBCCDDEEFF000123456789ABCDEF, .roundtointQ16 0x1122334455667788),
   (0x88112233445566778899AABBCCDDEEFF000123456789ABCDEF, .addQ16 0x1122334455667788 0x99AABBCCDDEEFF00),
   (0x89112233445566778899AABBCCDDEEFF000123456789ABCDEF, .subQ16 0x1122334455667788 0x99AABBCCDDEEFF00),
   (0x8A112233445566778899AABBCCDDEEFF000123456789ABCDEF, .mulQ16 0x1122334455667788 0x99AABBCCDDEEFF00),
   (0x8C112233445566778899AABBCCDDEEFF000123456789ABCDEF, .divQ16 0x1122334455667788 0x99AABBCCDDEEFF00),
   (0x8D112233445566778899AABBCCDDEEFF000123456789ABCDEF, .divfastQ16 0x1122334455667788 0x99AABBCCDDEEFF00),
   (0x8E112233445566778899AABBCCDDEEFF000123456789ABCDEF, .divfastestQ16 0x1122334455667788 0x99AABBCCDDEEFF00),
   (0x8F112233445566778899AABBCCDDEEFF000123456789ABCDEF, .divpreciseQ16 0x1122334455667788 0x99AABBCCDDEEFF00),
   (0x90112233445566778899AABBCCDDEEFF000123456789ABCDEF, .ceilQ16 0x1122334455667788),
   (0x91112233445566778899AABBCCDDEEFF000123456789ABCDEF, .floorQ16 0x1122334455667788),
   (0x92112233445566778899AABBCCDDEEFF000123456789ABCDEF, .roundQ16 0x1122334455667788),
   (0x93112233445566778899AABBCCDDEEFF000123456789ABCDEF, .fractQ16 0x1122334455667788),
   (0x94112233445566778899AABBCCDDEEFF000123456789ABCDEF, .modQ16 0x1122334455667788 0x99AABBCCDDEEFF00),
   (0x95112233445566778899AABBCCDDEEFF000123456789ABCDEF, .minQ16 0x1122334455667788 0x99AABBCCDDEEFF00),
   (0x96112233445566778899AABBCCDDEEFF000123456789ABCDEF, .maxQ16 0x1122334455667788 0x99AABBCCDDEEFF00),
   (0x97112233445566778899AABBCCDDEEFF000123456789ABCDEF, .clampQ16 0x1122334455667788 0x99AABBCCDDEEFF00 0x123456789ABCDEF),
   (0x98112233445566778899AABBCCDDEEFF000123456789ABCDEF, .lerpQ16 0x1122334455667788 0x99AABBCCDDEEFF00 0x123456789ABCDEF)] = true := by
  decide +kernel

theorem test_decode_q16_transcendental : decodesAll
  [(0xA0112233445566778899AABBCCDDEEFF000123456789ABCDEF, .rcpQ16 0x1122334455667788),
   (0xA1112233445566778899AABBCCDDEEFF000123456789ABCDEF, .rcpfastQ16 0x1122334455667788),
   (0xA2112233445566778899AABBCCDDEEFF000123456789ABCDEF, .rcpfastestQ16 0x1122334455667788),
   (0xA4112233445566778899AABBCCDDEEFF000123456789ABCDEF, .sqrtQ16 0x1122334455667788),
   (0xA5112233445566778899AABBCCDDEEFF000123456789ABCDEF, .sqrtfastQ16 0x1122334455667788),
   (0xA6112233445566778899AABBCCDDEEFF000123456789ABCDEF, .sqrtfastestQ16 0x1122334455667788),
   (0xA8112233445566778899AABBCCDDEEFF000123456789ABCDEF, .rsqrtQ16 0x1122334455667788),
   (0xA9112233445566778899AABBCCDDEEFF000123456789ABCDEF, .rsqrtfastQ16 0x1122334455667788),
   (0xAA112233445566778899AABBCCDDEEFF000123456789ABCDEF, .rsqrtfastestQ16 0x1122334455667788),
   (0xB0112233445566778899AABBCCDDEEFF000123456789ABCDEF, .expQ16 0x1122334455667788),
   (0xB1112233445566778899AABBCCDDEEFF000123456789ABCDEF, .expfastQ16 0x1122334455667788),
   (0xB2112233445566778899AABBCCDDEEFF000123456789ABCDEF, .expfastestQ16 0x1122334455667788),
   (0xB4112233445566778899AABBCCDDEEFF000123456789ABCDEF, .exp2Q16 0x1122334455667788),
   (0xB5112233445566778899AABBCCDDEEFF000123456789ABCDEF, .exp2fastQ16 0x1122334455667788),
   (0xB6112233445566778899AABBCCDDEEFF000123456789ABCDEF, .exp2fastestQ16 0x1122334455667788),
   (0xB8112233445566778899AABBCCDDEEFF000123456789ABCDEF, .logQ16 0x1122334455667788),
   (0xB9112233445566778899AABBCCDDEEFF000123456789ABCDEF, .logfastQ16 0x1122334455667788),
   (0xBA112233445566778899AABBCCDDEEFF000123456789ABCDEF, .logfastestQ16 0x1122334455667788),
   (0xBC112233445566778899AABBCCDDEEFF000123456789ABCDEF, .log2Q16 0x1122334455667788),
   (0xBD112233445566778899AABBCCDDEEFF000123456789ABCDEF, .log2fastQ16 0x1122334455667788),
   (0xBE112233445566778899AABBCCDDEEFF000123456789ABCDEF, .log2fastestQ16 0x1122334455667788),
   (0xC0112233445566778899AABBCCDDEEFF000123456789ABCDEF, .powQ16 0x1122334455667788 0x99AABBCCDDEEFF00),
   (0xC1112233445566778899AABBCCDDEEFF000123456789ABCDEF, .powfastQ16 0x1122334455667788 0x99AABBCCDDEEFF00),
   (0xC2112233445566778899AABBCCDDEEFF000123456789ABCDEF, .powfastestQ16 0x1122334455667788 0x99AABBCCDDEEFF00)] = true := by
  decide +kernel

theorem test_decode_q16_trig : decodesAll
  [(0xC4112233445566778899AABBCCDDEEFF000123456789ABCDEF, .sinQ16 0x1122334455667788),
   (0xC5112233445566778899AABBCCDDEEFF000123456789ABCDEF, .sinfastQ16 0x1122334455667788),
   (0xC6112233445566778899AABBCCDDEEFF000123456789ABCDEF, .sinfastestQ16 0x1122334455667788),
   (0xC8112233445566778899AABBCCDDEEFF000123456789ABCDEF, .cosQ16 0x1122334455667788),
   (0xC9112233445566778899AABBCCDDEEFF000123456789ABCDEF, .cosfastQ16 0x1122334455667788),
   (0xCA112233445566778899AABBCCDDEEFF000123456789ABCDEF, .cosfastestQ16 0x1122334455667788),
   (0xCC112233445566778899AABBCCDDEEFF000123456789ABCDEF, .tanQ16 0x1122334455667788),
   (0xCD112233445566778899AABBCCDDEEFF000123456789ABCDEF, .tanfastQ16 0x1122334455667788),
   (0xCE112233445566778899AABBCCDDEEFF000123456789ABCDEF, .tanfastestQ16 0x1122334455667788),
   (0xD0112233445566778899AABBCCDDEEFF000123456789ABCDEF, .asinQ16 0x1122334455667788),
   (0xD1112233445566778899AABBCCDDEEFF000123456789ABCDEF, .asinfastQ16 0x1122334455667788),
   (0xD2112233445566778899AABBCCDDEEFF000123456789ABCDEF, .asinfastestQ16 0x1122334455667788),
   (0xD4112233445566778899AABBCCDDEEFF000123456789ABCDEF, .acosQ16 0x1122334455667788),
   (0xD5112233445566778899AABBCCDDEEFF000123456789ABCDEF, .acosfastQ16 0x1122334455667788),
   (0xD6112233445566778899AABBCCDDEEFF000123456789ABCDEF, .acosfastestQ16 0x1122334455667788),
   (0xD8112233445566778899AABBCCDDEEFF000123456789ABCDEF, .atanQ16 0x1122334455667788),
   (0xD9112233445566778899AABBCCDDEEFF000123456789ABCDEF, .atanfastQ16 0x1122334455667788),
   (0xDA112233445566778899AABBCCDDEEFF000123456789ABCDEF, .atanfastestQ16 0x1122334455667788),
   (0xDC112233445566778899AABBCCDDEEFF000123456789ABCDEF, .atan2Q16 0x1122334455667788 0x99AABBCCDDEEFF00),
   (0xDD112233445566778899AABBCCDDEEFF000123456789ABCDEF, .atan2fastQ16 0x1122334455667788 0x99AABBCCDDEEFF00),
   (0xDE112233445566778899AABBCCDDEEFF000123456789ABCDEF, .atan2fastestQ16 0x1122334455667788 0x99AABBCCDDEEFF00)] = true := by
  decide +kernel

theorem test_decode_evaluators : decodesAll
  [(0xE0112233445566778899AABBCCDDEEFF000123456789ABCDEF, .rcpP4l8 0x1122334455667788),
   (0xE1112233445566778899AABBCCDDEEFF000123456789ABCDEF, .rcpP6 0x1122334455667788),
   (0xE2112233445566778899AABBCCDDEEFF000123456789ABCDEF, .rcpP4 0x1122334455667788),
   (0xE4112233445566778899AABBCCDDEEFF000123456789ABCDEF, .sqrtP3l8 0x1122334455667788),
   (0xE5112233445566778899AABBCCDDEEFF000123456789ABCDEF, .sqrtP4 0x1122334455667788),
   (0xE6112233445566778899AABBCCDDEEFF000123456789ABCDEF, .sqrtP3 0x1122334455667788),
   (0xE8112233445566778899AABBCCDDEEFF000123456789ABCDEF, .rsqrtP3l16 0x1122334455667788),
   (0xE9112233445566778899AABBCCDDEEFF000123456789ABCDEF, .rsqrtP5 0x1122334455667788),
   (0xEA112233445566778899AABBCCDDEEFF000123456789ABCDEF, .rsqrtP3 0x1122334455667788),
   (0xEC112233445566778899AABBCCDDEEFF000123456789ABCDEF, .log2P5l8 0x1122334455667788),
   (0xED112233445566778899AABBCCDDEEFF000123456789ABCDEF, .log2P3l8 0x1122334455667788),
   (0xEE112233445566778899AABBCCDDEEFF000123456789ABCDEF, .log2P5 0x1122334455667788),
   (0xF0112233445566778899AABBCCDDEEFF000123456789ABCDEF, .exp2P5 0x1122334455667788),
   (0xF1112233445566778899AABBCCDDEEFF000123456789ABCDEF, .exp2P4 0x1122334455667788),
   (0xF2112233445566778899AABBCCDDEEFF000123456789ABCDEF, .exp2P3 0x1122334455667788),
   (0xF4112233445566778899AABBCCDDEEFF000123456789ABCDEF, .usinP4 0x1122334455667788),
   (0xF5112233445566778899AABBCCDDEEFF000123456789ABCDEF, .usinP3 0x1122334455667788),
   (0xF6112233445566778899AABBCCDDEEFF000123456789ABCDEF, .usinP2 0x1122334455667788),
   (0xF8112233445566778899AABBCCDDEEFF000123456789ABCDEF, .atanP5l8 0x1122334455667788),
   (0xF9112233445566778899AABBCCDDEEFF000123456789ABCDEF, .atanP3l8 0x1122334455667788),
   (0xFA112233445566778899AABBCCDDEEFF000123456789ABCDEF, .atanP4 0x1122334455667788)] = true := by
  decide +kernel

theorem test_decode_rejects_reserved :
    reservedOpcodes.all (fun n => match decode ⟨BitVec.ofNat 8 n, 1, 2, 3⟩ with
      | .ok _                      => false
      | .error (.reservedOpcode op) => op == BitVec.ofNat 8 n) = true := by decide +kernel

theorem test_decodeTableWord : decodeTableWord 8 0x5C = some (.atan2Q32 0 0) ∧ decodeTableWord 8 0x0B = none := by
  decide +kernel

/-! ## Answers: one step of a unit just reset, given one command -/

/-- One step on a unit that holds only the command answers `r` and leaves no command in flight. -/
def answersWith (op : Opcode) (a b c r : Word) : Bool :=
  match step { inFlight := [{ op := op, a := a, b := b, c := c }], responses := [] } with
  | .next t    => t == { inFlight := [], responses := [r] }
  | .fault _   => false
  | .refused _ => false

/-- Every row `(op, A, B, C, R)` is answered as it says. -/
def answersAll (rows : List (Opcode × Word × Word × Word × Word)) : Bool :=
  rows.all (fun r => answersWith r.1 r.2.1 r.2.2.1 r.2.2.2.1 r.2.2.2.2)

/-- From 44_q32_arith.md and the vectors of files 95 to 97. -/
theorem test_answers_q32_conversions_from : answersAll
  [(0x00, 0xFFFFFFFFFFFFFFFD, 0x0, 0x0, 0xFFFFFFFD00000000),
   (0x00, 0xFFFFFFFFFFFFFFFF, 0x0, 0x0, 0xFFFFFFFF00000000),
   (0x01, 0xBFC00000, 0x0, 0x0, 0xFFFFFFFE80000000),
   (0x01, 0x7F800000, 0x0, 0x0, 0x0),
   (0x01, 0x7FC00000, 0x0, 0x0, 0x0),
   (0x01, 0x1, 0x0, 0x0, 0x0),
   (0x01, 0x2F800000, 0x0, 0x0, 0x1),
   (0x01, 0x2F000000, 0x0, 0x0, 0x0),
   (0x01, 0xAF000000, 0x0, 0x0, 0x0),
   (0x01, 0x4F000000, 0x0, 0x0, 0x8000000000000000),
   (0x01, 0xBDCCCCCD, 0x0, 0x0, 0xFFFFFFFFE6666660),
   (0x02, 0xBFF8000000000000, 0x0, 0x0, 0xFFFFFFFE80000000),
   (0x02, 0x7FF0000000000000, 0x0, 0x0, 0x0),
   (0x02, 0x7FEFFFFFFFFFFFFF, 0x0, 0x0, 0x0),
   (0x02, 0x1, 0x0, 0x0, 0x0),
   (0x02, 0x41E0000000000000, 0x0, 0x0, 0x8000000000000000),
   (0x02, 0xBDE0000000000000, 0x0, 0x0, 0x0),
   (0x02, 0x4202A05F20000000, 0x0, 0x0, 0x540BE40000000000)] = true := by
  decide +kernel

/-- From 44_q32_arith.md and the vectors of files 95 to 97. -/
theorem test_answers_q32_conversions_to : answersAll
  [(0x03, 0x180000000, 0x0, 0x0, 0x3FF8000000000000),
   (0x03, 0x20000000000001, 0x0, 0x0, 0x4140000000000000),
   (0x03, 0x20000000000003, 0x0, 0x0, 0x4140000000000002),
   (0x03, 0x7FFFFFFFFFFFFFFF, 0x0, 0x0, 0x41E0000000000000),
   (0x03, 0x8000000000000000, 0x0, 0x0, 0xC1E0000000000000),
   (0x04, 0x180000000, 0x0, 0x0, 0x3FC00000),
   (0x04, 0x1000001, 0x0, 0x0, 0x3B800000),
   (0x04, 0x1000002, 0x0, 0x0, 0x3B800001),
   (0x04, 0x1000003, 0x0, 0x0, 0x3B800002),
   (0x04, 0xFFFFFFFF, 0x0, 0x0, 0x3F800000),
   (0x04, 0x8000000000000000, 0x0, 0x0, 0xCF000000)] = true := by
  decide +kernel

/-- From 44_q32_arith.md and the vectors of files 95 to 97. -/
theorem test_answers_q32_to_int : answersAll
  [(0x05, 0x280000000, 0x0, 0x0, 0x2),
   (0x05, 0x7FFFFFFFFFFFFFFF, 0x0, 0x0, 0x7FFFFFFF),
   (0x05, 0x80000000, 0x0, 0x0, 0x0),
   (0x06, 0x280000000, 0x0, 0x0, 0x3),
   (0x06, 0x7FFFFFFF7FFFFFFF, 0x0, 0x0, 0xFFFFFFFF80000000),
   (0x06, 0xFFFFFFFF80000000, 0x0, 0x0, 0x0),
   (0x07, 0x280000000, 0x0, 0x0, 0x3),
   (0x07, 0x7FFFFFFF80000000, 0x0, 0x0, 0xFFFFFFFF80000000),
   (0x07, 0xFFFFFFFF80000000, 0x0, 0x0, 0x0)] = true := by
  decide +kernel

/-- From 44_q32_arith.md and the vectors of files 95 to 97. -/
theorem test_answers_q32_add_sub_mul : answersAll
  [(0x08, 0x100000000, 0x200000000, 0x0, 0x300000000),
   (0x08, 0x8000000000000000, 0xFFFFFFFFFFFFFFFF, 0x0, 0x7FFFFFFFFFFFFFFF),
   (0x08, 0x8000000000000000, 0x8000000000000000, 0x0, 0x0),
   (0x09, 0x100000000, 0x200000000, 0x0, 0xFFFFFFFF00000000),
   (0x09, 0x7FFFFFFFFFFFFFFF, 0xFFFFFFFFFFFFFFFF, 0x0, 0x8000000000000000),
   (0x09, 0x27311C280, 0x27311C280, 0x0, 0x0),
   (0x0A, 0xFFFFFFFE80000000, 0x280000000, 0x0, 0xFFFFFFFC40000000),
   (0x0A, 0x7FFFFFFFFFFFFFFF, 0x100000000, 0x0, 0x7FFFFFFFFFFFFFFF),
   (0x0A, 0x8000000000000000, 0x8000000000000000, 0x0, 0x0)] = true := by
  decide +kernel

/-- From 44_q32_arith.md and the vectors of files 95 to 97. -/
theorem test_answers_q32_div : answersAll
  [(0x0C, 0x100000000, 0x300000000, 0x0, 0x55555556),
   (0x0C, 0x500000000, 0x0, 0x0, 0x0),
   (0x0C, 0x500000000, 0x8000000000000000, 0x0, 0x0),
   (0x0D, 0x100000000, 0x300000000, 0x0, 0x5555406C),
   (0x0E, 0x100000000, 0x300000000, 0x0, 0x55583FF8)] = true := by
  decide +kernel

/-- From 44_q32_arith.md and the vectors of files 95 to 97. -/
theorem test_answers_q32_divprecise_mod : answersAll
  [(0x0F, 0x100000000, 0x300000000, 0x0, 0x55555555),
   (0x0F, 0x0, 0x0, 0x0, 0x0),
   (0x0F, 0x500000000, 0x8000000000000000, 0x0, 0x0),
   (0x0F, 0x7FFFFFFF, 0x1, 0x0, 0x7FFFFFFF00000000),
   (0x0F, 0x80000000, 0x1, 0x0, 0x8000000000000000),
   (0x0F, 0x100000000, 0x1, 0x0, 0x7FFFFFFFFFFFFFFF),
   (0x0F, 0x100000000, 0x2, 0x0, 0x8000000000000000),
   (0x0F, 0xFFFFFFFF00000000, 0x300000000, 0x0, 0xFFFFFFFFAAAAAAAB),
   (0x14, 0x780000000, 0x200000000, 0x0, 0x180000000),
   (0x14, 0x500000000, 0x0, 0x0, 0x0),
   (0x14, 0x8000000000000000, 0xFFFFFFFFFFFFFFFF, 0x0, 0x0),
   (0x14, 0x5, 0x8000000000000000, 0x0, 0x5),
   (0x14, 0xFFFFFFF880000000, 0x200000000, 0x0, 0xFFFFFFFE80000000)] = true := by
  decide +kernel

/-- From 44_q32_arith.md and the vectors of files 95 to 97. -/
theorem test_answers_q32_rounding : answersAll
  [(0x10, 0x240000000, 0x0, 0x0, 0x300000000),
   (0x10, 0x8000000000000000, 0x0, 0x0, 0x8000000000000000),
   (0x10, 0xFFFFFFFFC0000000, 0x0, 0x0, 0x0),
   (0x11, 0x240000000, 0x0, 0x0, 0x200000000),
   (0x11, 0x8000000000000000, 0x0, 0x0, 0x8000000000000000),
   (0x11, 0x1, 0x0, 0x0, 0x0),
   (0x12, 0x240000000, 0x0, 0x0, 0x200000000),
   (0x12, 0xFFFFFFFD40000000, 0x0, 0x0, 0xFFFFFFFD00000000),
   (0x12, 0xFFFFFFFFC0000000, 0x0, 0x0, 0x0),
   (0x13, 0x240000000, 0x0, 0x0, 0x40000000),
   (0x13, 0x7FFFFFFF7FFFFFFF, 0x0, 0x0, 0x7FFFFFFF),
   (0x13, 0x300000000, 0x0, 0x0, 0x0)] = true := by
  decide +kernel

/-- From 44_q32_arith.md and the vectors of files 95 to 97. -/
theorem test_answers_q32_min_max_clamp_lerp : answersAll
  [(0x15, 0x100000000, 0x200000000, 0x0, 0x100000000),
   (0x15, 0x8000000000000000, 0x7FFFFFFFFFFFFFFF, 0x0, 0x8000000000000000),
   (0x16, 0x100000000, 0x200000000, 0x0, 0x200000000),
   (0x16, 0x8000000000000000, 0x7FFFFFFFFFFFFFFF, 0x0, 0x7FFFFFFFFFFFFFFF),
   (0x16, 0xFFFFFFFFFFFFFFFF, 0x0, 0x0, 0x0),
   (0x17, 0x500000000, 0x0, 0xA00000000, 0x500000000),
   (0x17, 0x500000000, 0xA00000000, 0x0, 0x0),
   (0x17, 0xFFFFFFFB00000000, 0xA00000000, 0x0, 0xA00000000),
   (0x17, 0xF00000000, 0x0, 0xA00000000, 0xA00000000),
   (0x18, 0x200000000, 0x400000000, 0x40000000, 0x280000000),
   (0x18, 0x200000000, 0x400000000, 0x0, 0x200000000),
   (0x18, 0x200000000, 0x400000000, 0x100000000, 0x400000000)] = true := by
  decide +kernel

/-- From 45_q32_transcendental.md and the vectors of files 95 to 97. -/
theorem test_answers_q32_rcp : answersAll
  [(0x20, 0x300000000, 0x0, 0x0, 0x55555556),
   (0x20, 0x0, 0x0, 0x0, 0x0),
   (0x20, 0x1, 0x0, 0x0, 0x0),
   (0x20, 0x8000000000000000, 0x0, 0x0, 0x0),
   (0x20, 0x200000000, 0x0, 0x0, 0x80000000),
   (0x20, 0x400000000, 0x0, 0x0, 0x40000000),
   (0x21, 0x300000000, 0x0, 0x0, 0x5555406C),
   (0x22, 0x300000000, 0x0, 0x0, 0x55583FF8)] = true := by
  decide +kernel

/-- From 45_q32_transcendental.md and the vectors of files 95 to 97. -/
theorem test_answers_q32_sqrt : answersAll
  [(0x24, 0x600000000, 0x0, 0x0, 0x27311C280),
   (0x24, 0x0, 0x0, 0x0, 0x0),
   (0x24, 0x1, 0x0, 0x0, 0x10000),
   (0x24, 0x8000000000000000, 0x0, 0x0, 0x0),
   (0x24, 0x200000000, 0x0, 0x0, 0x16A09E668),
   (0x24, 0x400000000, 0x0, 0x0, 0x200000000),
   (0x25, 0x600000000, 0x0, 0x0, 0x273115B98),
   (0x26, 0x600000000, 0x0, 0x0, 0x273203988)] = true := by
  decide +kernel

/-- From 45_q32_transcendental.md and the vectors of files 95 to 97. -/
theorem test_answers_q32_rsqrt : answersAll
  [(0x28, 0x600000000, 0x0, 0x0, 0x6882F5C0),
   (0x28, 0x0, 0x0, 0x0, 0x0),
   (0x28, 0x1, 0x0, 0x0, 0x1000000000000),
   (0x28, 0x8000000000000000, 0x0, 0x0, 0x0),
   (0x28, 0x200000000, 0x0, 0x0, 0xB504F334),
   (0x28, 0x400000000, 0x0, 0x0, 0x80000000),
   (0x29, 0x600000000, 0x0, 0x0, 0x68835814),
   (0x2A, 0x600000000, 0x0, 0x0, 0x68713DEE)] = true := by
  decide +kernel

/-- From 45_q32_transcendental.md and the vectors of files 95 to 97. -/
theorem test_answers_q32_exp : answersAll
  [(0x30, 0x100000000, 0x0, 0x0, 0x2B7E154B0),
   (0x30, 0x157CD0E6FE, 0x0, 0x0, 0x7FFFFFFB00000000),
   (0x30, 0x157CD0E6FF, 0x0, 0x0, 0x7FFFFFFFFFFFFFFF),
   (0x30, 0xFFFFFFE9D1BD010A, 0x0, 0x0, 0x0),
   (0x30, 0xFFFFFFE9D1BD010B, 0x0, 0x0, 0x1),
   (0x31, 0x100000000, 0x0, 0x0, 0x2B7E1ABA0),
   (0x32, 0x100000000, 0x0, 0x0, 0x2B7D04D40)] = true := by
  decide +kernel

/-- From 45_q32_transcendental.md and the vectors of files 95 to 97. -/
theorem test_answers_q32_exp2 : answersAll
  [(0x34, 0x380000000, 0x0, 0x0, 0xB504F44E0),
   (0x34, 0x1EFFFFFFFF, 0x0, 0x0, 0x7FFFFFFB00000000),
   (0x34, 0x1F00000000, 0x0, 0x0, 0x7FFFFFFFFFFFFFFF),
   (0x34, 0xFFFFFFE000000000, 0x0, 0x0, 0x1),
   (0x34, 0xFFFFFFDFFFFFFFFF, 0x0, 0x0, 0x0),
   (0x35, 0x380000000, 0x0, 0x0, 0xB504F5640),
   (0x36, 0x380000000, 0x0, 0x0, 0xB50025060)] = true := by
  decide +kernel

/-- From 45_q32_transcendental.md and the vectors of files 95 to 97. -/
theorem test_answers_q32_log : answersAll
  [(0x38, 0xA00000000, 0x0, 0x0, 0x24D763777),
   (0x38, 0x0, 0x0, 0x0, 0x0),
   (0x38, 0x1, 0x0, 0x0, 0xFFFFFFE9D1BD0100),
   (0x38, 0x8000000000000000, 0x0, 0x0, 0x0),
   (0x38, 0x200000000, 0x0, 0x0, 0xB17217F8),
   (0x38, 0x400000000, 0x0, 0x0, 0x162E42FF0),
   (0x39, 0xA00000000, 0x0, 0x0, 0x24D763777),
   (0x3A, 0xA00000000, 0x0, 0x0, 0x24D76DF1F)] = true := by
  decide +kernel

/-- From 45_q32_transcendental.md and the vectors of files 95 to 97. -/
theorem test_answers_q32_log2 : answersAll
  [(0x3C, 0xA00000000, 0x0, 0x0, 0x35269E130),
   (0x3C, 0x0, 0x0, 0x0, 0x0),
   (0x3C, 0x1, 0x0, 0x0, 0xFFFFFFE000000000),
   (0x3C, 0x8000000000000000, 0x0, 0x0, 0x0),
   (0x3C, 0x200000000, 0x0, 0x0, 0x100000000),
   (0x3C, 0x400000000, 0x0, 0x0, 0x200000000),
   (0x3D, 0xA00000000, 0x0, 0x0, 0x35269E130),
   (0x3E, 0xA00000000, 0x0, 0x0, 0x3526AD310)] = true := by
  decide +kernel

/-- From 45_q32_transcendental.md and the vectors of files 95 to 97. -/
theorem test_answers_q32_pow : answersAll
  [(0x40, 0x180000000, 0x280000000, 0x0, 0x2C173FEA0),
   (0x40, 0x0, 0x0, 0x0, 0x0),
   (0x40, 0x7FFFFFFFFFFFFFFF, 0x7FFFFFFFFFFFFFFF, 0x0, 0x7FFFFFFFFFFFFFFF),
   (0x40, 0x7FFFFFFFFFFFFFFF, 0x8000000000000000, 0x0, 0x0),
   (0x40, 0xFFFFFFFE00000000, 0x200000000, 0x0, 0x0),
   (0x41, 0x180000000, 0x280000000, 0x0, 0x2C1743AC8),
   (0x42, 0x180000000, 0x280000000, 0x0, 0x2C15D2B20)] = true := by
  decide +kernel

/-- From 46_q32_trig.md and the vectors of files 95 to 97. -/
theorem test_answers_q32_sin : answersAll
  [(0x44, 0x100000000, 0x0, 0x0, 0xD76AA468),
   (0x44, 0x7FFFFFFFFFFFFFFF, 0x0, 0x0, 0xFFFFFFFFFFFFFFF8),
   (0x44, 0x1, 0x0, 0x0, 0x0),
   (0x45, 0x100000000, 0x0, 0x0, 0xD76AA66C),
   (0x46, 0x100000000, 0x0, 0x0, 0xD76FEE38)] = true := by
  decide +kernel

/-- From 46_q32_trig.md and the vectors of files 95 to 97. -/
theorem test_answers_q32_cos : answersAll
  [(0x48, 0x100000000, 0x0, 0x0, 0x8A514084),
   (0x48, 0x7FFFFFFFFFFFFFFF, 0x0, 0x0, 0xFFFFFFF8),
   (0x48, 0x1921FB544, 0x0, 0x0, 0x0),
   (0x49, 0x100000000, 0x0, 0x0, 0x8A514248),
   (0x4A, 0x100000000, 0x0, 0x0, 0x8A4E4970)] = true := by
  decide +kernel

/-- From 46_q32_trig.md and the vectors of files 95 to 97. -/
theorem test_answers_q32_tan : answersAll
  [(0x4C, 0x100000000, 0x0, 0x0, 0x18EB24717),
   (0x4C, 0x1921FB544, 0x0, 0x0, 0x0),
   (0x4D, 0x100000000, 0x0, 0x0, 0x18EB27322),
   (0x4E, 0x100000000, 0x0, 0x0, 0x18EE25625)] = true := by
  decide +kernel

/-- From 46_q32_trig.md and the vectors of files 95 to 97. -/
theorem test_answers_q32_asin : answersAll
  [(0x50, 0x80000000, 0x0, 0x0, 0x860A91B8),
   (0x50, 0x100000000, 0x0, 0x0, 0x1921FB544),
   (0x50, 0x100000001, 0x0, 0x0, 0x0),
   (0x50, 0xFFFFFFFF00000000, 0x0, 0x0, 0xFFFFFFFE6DE04ABC),
   (0x50, 0xFFFFFFFEFFFFFFFF, 0x0, 0x0, 0x0),
   (0x51, 0x80000000, 0x0, 0x0, 0x860AC77C),
   (0x52, 0x80000000, 0x0, 0x0, 0x860F3080)] = true := by
  decide +kernel

/-- From 46_q32_trig.md and the vectors of files 95 to 97. -/
theorem test_answers_q32_acos : answersAll
  [(0x54, 0x80000000, 0x0, 0x0, 0x10C15238C),
   (0x54, 0x100000000, 0x0, 0x0, 0x0),
   (0x54, 0x100000001, 0x0, 0x0, 0x0),
   (0x54, 0xFFFFFFFF00000000, 0x0, 0x0, 0x3243F6A89),
   (0x54, 0xFFFFFFFEFFFFFFFF, 0x0, 0x0, 0x0),
   (0x55, 0x80000000, 0x0, 0x0, 0x10C14EDC8),
   (0x56, 0x80000000, 0x0, 0x0, 0x10C1084C4)] = true := by
  decide +kernel

/-- From 46_q32_trig.md and the vectors of files 95 to 97. -/
theorem test_answers_q32_atan : answersAll
  [(0x58, 0xA00000000, 0x0, 0x0, 0x1789BD2C4),
   (0x58, 0xFFFFFFF600000000, 0x0, 0x0, 0xFFFFFFFE87642D3C),
   (0x58, 0xFFFFFFFFFFFFFFFF, 0x0, 0x0, 0x0),
   (0x59, 0xA00000000, 0x0, 0x0, 0x1789BD2E4),
   (0x5A, 0xA00000000, 0x0, 0x0, 0x1789E71CC)] = true := by
  decide +kernel

/-- From 46_q32_trig.md and the vectors of files 95 to 97. -/
theorem test_answers_q32_atan2 : answersAll
  [(0x5C, 0x300000000, 0xFFFFFFFC00000000, 0x0, 0x27F82ED71),
   (0x5C, 0x0, 0x0, 0x0, 0x0),
   (0x5C, 0x0, 0xFFFFFFFF00000000, 0x0, 0x3243F6A89),
   (0x5C, 0xFFFFFFFF00000000, 0x0, 0x0, 0xFFFFFFFE6DE04ABC),
   (0x5C, 0x100000000, 0x0, 0x0, 0x1921FB544),
   (0x5C, 0x400000000, 0x300000000, 0x0, 0xED63382C),
   (0x5C, 0x400000000, 0xFFFFFFFD00000000, 0x0, 0x236DC325C),
   (0x5C, 0xFFFFFFFC00000000, 0x300000000, 0x0, 0xFFFFFFFF129CC7D4),
   (0x5C, 0xFFFFFFFC00000000, 0xFFFFFFFD00000000, 0x0, 0xFFFFFFFDC923CDA4),
   (0x5C, 0xFFFFFFFD00000000, 0x400000000, 0x0, 0xFFFFFFFF5B4382E8),
   (0x5C, 0xFFFFFFFD00000000, 0xFFFFFFFC00000000, 0x0, 0xFFFFFFFD807D128F),
   (0x5C, 0x8000000000000000, 0x8000000000000000, 0x0, 0xFFFFFFFDA4D0701B),
   (0x5D, 0x300000000, 0xFFFFFFFC00000000, 0x0, 0x27F82ED71),
   (0x5E, 0x300000000, 0xFFFFFFFC00000000, 0x0, 0x27F82E279)] = true := by
  decide +kernel

/-- From 47_q16_arith.md and the vectors of files 95 to 97. -/
theorem test_answers_q16_conversions_from : answersAll
  [(0x80, 0xFFFFFFFFFFFFFFFD, 0x0, 0x0, 0xFFFFFFFFFFFD0000),
   (0x80, 0xFFFFFFFFFFFF7FFF, 0x0, 0x0, 0x7FFF0000),
   (0x80, 0xFFFFFFFF80000000, 0x0, 0x0, 0x0),
   (0x81, 0xBFC00000, 0x0, 0x0, 0xFFFFFFFFFFFE8000),
   (0x81, 0xFFFFFFFF3F800000, 0x0, 0x0, 0x10000),
   (0x81, 0xFF800000, 0x0, 0x0, 0x0),
   (0x82, 0xBFF8000000000000, 0x0, 0x0, 0xFFFFFFFFFFFE8000),
   (0x82, 0x40E0000000000000, 0x0, 0x0, 0xFFFFFFFF80000000),
   (0x82, 0xFFF0000000000000, 0x0, 0x0, 0x0)] = true := by
  decide +kernel

/-- From 47_q16_arith.md and the vectors of files 95 to 97. -/
theorem test_answers_q16_conversions_to : answersAll
  [(0x83, 0x18000, 0x0, 0x0, 0x3FF8000000000000),
   (0x83, 0xFFFFFFFF80000000, 0x0, 0x0, 0xC0E0000000000000),
   (0x84, 0x18000, 0x0, 0x0, 0x3FC00000),
   (0x84, 0xFFFFFFFF80000000, 0x0, 0x0, 0xC7000000)] = true := by
  decide +kernel

/-- From 47_q16_arith.md and the vectors of files 95 to 97. -/
theorem test_answers_q16_to_int : answersAll
  [(0x85, 0x28000, 0x0, 0x0, 0x2),
   (0x85, 0xFFFFFFFFFFFE8000, 0x0, 0x0, 0xFFFFFFFFFFFFFFFE),
   (0x85, 0x1, 0x0, 0x0, 0x0),
   (0x86, 0x28000, 0x0, 0x0, 0x3),
   (0x86, 0xFFFFFFFFFFFD8000, 0x0, 0x0, 0xFFFFFFFFFFFFFFFE),
   (0x86, 0xFFFFFFFFFFFF8000, 0x0, 0x0, 0x0),
   (0x87, 0x28000, 0x0, 0x0, 0x3),
   (0x87, 0xFFFFFFFFFFFE8000, 0x0, 0x0, 0xFFFFFFFFFFFFFFFF),
   (0x87, 0xFFFFFFFFFFFFFFFF, 0x0, 0x0, 0x0)] = true := by
  decide +kernel

/-- From 47_q16_arith.md and the vectors of files 95 to 97. -/
theorem test_answers_q16_add_sub_mul : answersAll
  [(0x88, 0x10000, 0x20000, 0x0, 0x30000),
   (0x88, 0xFFFFFFFF80000000, 0xFFFFFFFFFFFFFFFF, 0x0, 0x7FFFFFFF),
   (0x88, 0xFFFFFFFF80000000, 0xFFFFFFFF80000000, 0x0, 0x0),
   (0x89, 0x10000, 0x20000, 0x0, 0xFFFFFFFFFFFF0000),
   (0x89, 0xFFFFFFFF80000000, 0x1, 0x0, 0x7FFFFFFF),
   (0x89, 0xFFFFFFFF80000000, 0xFFFFFFFF80000000, 0x0, 0x0),
   (0x8A, 0xFFFFFFFFFFFE8000, 0x28000, 0x0, 0xFFFFFFFFFFFC4000),
   (0x8A, 0xFFFFFFFFFFFFFFFF, 0x1, 0x0, 0xFFFFFFFFFFFFFFFF),
   (0x8A, 0xFFFFFFFFFFFFFFFF, 0xFFFFFFFFFFFFFFFF, 0x0, 0x0)] = true := by
  decide +kernel

/-- From 47_q16_arith.md and the vectors of files 95 to 97. -/
theorem test_answers_q16_div : answersAll
  [(0x8C, 0x10000, 0x30000, 0x0, 0x5555),
   (0x8C, 0x50000, 0x0, 0x0, 0x0),
   (0x8C, 0x50000, 0xFFFFFFFF80000000, 0x0, 0x0),
   (0x8D, 0x10000, 0x30000, 0x0, 0x5555),
   (0x8E, 0x10000, 0x30000, 0x0, 0x5558)] = true := by
  decide +kernel

/-- From 47_q16_arith.md and the vectors of files 95 to 97. -/
theorem test_answers_q16_divprecise_mod : answersAll
  [(0x8F, 0x10000, 0x30000, 0x0, 0x5555),
   (0x8F, 0x0, 0x0, 0x0, 0x0),
   (0x8F, 0x50000, 0xFFFFFFFF80000000, 0x0, 0x0),
   (0x8F, 0x7FFF, 0x1, 0x0, 0x7FFF0000),
   (0x8F, 0x8000, 0x1, 0x0, 0xFFFFFFFF80000000),
   (0x8F, 0x10000, 0x1, 0x0, 0x7FFFFFFF),
   (0x8F, 0x10000, 0x2, 0x0, 0xFFFFFFFF80000000),
   (0x8F, 0xFFFFFFFFFFFF0000, 0x30000, 0x0, 0xFFFFFFFFFFFFAAAB),
   (0x94, 0x78000, 0x20000, 0x0, 0x18000),
   (0x94, 0xFFFFFFFFFFF88000, 0x20000, 0x0, 0xFFFFFFFFFFFE8000),
   (0x94, 0x60000, 0x20000, 0x0, 0x0)] = true := by
  decide +kernel

/-- From 47_q16_arith.md and the vectors of files 95 to 97. -/
theorem test_answers_q16_rounding : answersAll
  [(0x90, 0x24000, 0x0, 0x0, 0x30000),
   (0x90, 0xFFFFFFFFFFFDC000, 0x0, 0x0, 0xFFFFFFFFFFFE0000),
   (0x90, 0xFFFFFFFFFFFFFFFF, 0x0, 0x0, 0x0),
   (0x91, 0x24000, 0x0, 0x0, 0x20000),
   (0x91, 0xFFFFFFFFFFFD8000, 0x0, 0x0, 0xFFFFFFFFFFFD0000),
   (0x91, 0x1, 0x0, 0x0, 0x0),
   (0x92, 0x24000, 0x0, 0x0, 0x20000),
   (0x92, 0xFFFFFFFFFFFD4000, 0x0, 0x0, 0xFFFFFFFFFFFD0000),
   (0x92, 0x1, 0x0, 0x0, 0x0),
   (0x93, 0x24000, 0x0, 0x0, 0x4000),
   (0x93, 0xFFFFFFFFFFFD8000, 0x0, 0x0, 0x8000),
   (0x93, 0x30000, 0x0, 0x0, 0x0)] = true := by
  decide +kernel

/-- From 47_q16_arith.md and the vectors of files 95 to 97. -/
theorem test_answers_q16_min_max_clamp_lerp : answersAll
  [(0x95, 0x10000, 0x20000, 0x0, 0x10000),
   (0x95, 0xFFFFFFFFFFFF0000, 0x10000, 0x0, 0xFFFFFFFFFFFF0000),
   (0x96, 0x10000, 0x20000, 0x0, 0x20000),
   (0x96, 0xFFFFFFFFFFFF0000, 0x10000, 0x0, 0x10000),
   (0x96, 0xFFFFFFFFFFFFFFFF, 0x0, 0x0, 0x0),
   (0x97, 0x50000, 0x0, 0xA0000, 0x50000),
   (0x97, 0xFFFFFFFFFFFB0000, 0xA0000, 0x0, 0xA0000),
   (0x97, 0xFFFFFFFFFFFB0000, 0x0, 0x10000, 0x0),
   (0x98, 0x20000, 0x40000, 0x4000, 0x28000),
   (0x98, 0x20000, 0x40000, 0x0, 0x20000),
   (0x98, 0x20000, 0x40000, 0x10000, 0x40000)] = true := by
  decide +kernel

/-- From 48_q16_transcendental.md and the vectors of files 95 to 97. -/
theorem test_answers_q16_rcp : answersAll
  [(0xA0, 0x30000, 0x0, 0x0, 0x5555),
   (0xA0, 0x0, 0x0, 0x0, 0x0),
   (0xA0, 0x1, 0x0, 0x0, 0x0),
   (0xA0, 0xFFFFFFFF80000000, 0x0, 0x0, 0x0),
   (0xA0, 0x20000, 0x0, 0x0, 0x8000),
   (0xA0, 0x40000, 0x0, 0x0, 0x4000),
   (0xA1, 0x30000, 0x0, 0x0, 0x5555),
   (0xA2, 0x30000, 0x0, 0x0, 0x5558)] = true := by
  decide +kernel

/-- From 48_q16_transcendental.md and the vectors of files 95 to 97. -/
theorem test_answers_q16_sqrt : answersAll
  [(0xA4, 0x60000, 0x0, 0x0, 0x27311),
   (0xA4, 0x0, 0x0, 0x0, 0x0),
   (0xA4, 0x1, 0x0, 0x0, 0x100),
   (0xA4, 0xFFFFFFFF80000000, 0x0, 0x0, 0x0),
   (0xA4, 0x20000, 0x0, 0x0, 0x16A09),
   (0xA4, 0x40000, 0x0, 0x0, 0x20000),
   (0xA5, 0x60000, 0x0, 0x0, 0x27311),
   (0xA6, 0x60000, 0x0, 0x0, 0x27320)] = true := by
  decide +kernel

/-- From 48_q16_transcendental.md and the vectors of files 95 to 97. -/
theorem test_answers_q16_rsqrt : answersAll
  [(0xA8, 0x60000, 0x0, 0x0, 0x6882),
   (0xA8, 0x0, 0x0, 0x0, 0x0),
   (0xA8, 0x1, 0x0, 0x0, 0x1000000),
   (0xA8, 0xFFFFFFFF80000000, 0x0, 0x0, 0x0),
   (0xA8, 0x20000, 0x0, 0x0, 0xB504),
   (0xA8, 0x40000, 0x0, 0x0, 0x8000),
   (0xA9, 0x60000, 0x0, 0x0, 0x6883),
   (0xAA, 0x60000, 0x0, 0x0, 0x6871)] = true := by
  decide +kernel

/-- From 48_q16_transcendental.md and the vectors of files 95 to 97. -/
theorem test_answers_q16_exp : answersAll
  [(0xB0, 0x10000, 0x0, 0x0, 0x2B7E0),
   (0xB0, 0xA65B2, 0x0, 0x0, 0x7FFF4E8C),
   (0xB0, 0xA65B3, 0x0, 0x0, 0x7FFFFFFF),
   (0xB0, 0xFFFFFFFFFFF4E8DA, 0x0, 0x0, 0x0),
   (0xB0, 0xFFFFFFFFFFF4E8DB, 0x0, 0x0, 0x1),
   (0xB1, 0x10000, 0x0, 0x0, 0x2B7E0),
   (0xB2, 0x10000, 0x0, 0x0, 0x2B7CF)] = true := by
  decide +kernel

/-- From 48_q16_transcendental.md and the vectors of files 95 to 97. -/
theorem test_answers_q16_exp2 : answersAll
  [(0xB4, 0x38000, 0x0, 0x0, 0xB504F),
   (0xB4, 0xEFFFF, 0x0, 0x0, 0x7FFFA745),
   (0xB4, 0xF0000, 0x0, 0x0, 0x7FFFFFFF),
   (0xB4, 0xFFFFFFFFFFF00000, 0x0, 0x0, 0x1),
   (0xB4, 0xFFFFFFFFFFEFFFFF, 0x0, 0x0, 0x0),
   (0xB5, 0x38000, 0x0, 0x0, 0xB504F),
   (0xB6, 0x38000, 0x0, 0x0, 0xB5002)] = true := by
  decide +kernel

/-- From 48_q16_transcendental.md and the vectors of files 95 to 97. -/
theorem test_answers_q16_log : answersAll
  [(0xB8, 0xA0000, 0x0, 0x0, 0x24D75),
   (0xB8, 0x0, 0x0, 0x0, 0x0),
   (0xB8, 0x1, 0x0, 0x0, 0xFFFFFFFFFFF4E8E0),
   (0xB8, 0xFFFFFFFF80000000, 0x0, 0x0, 0x0),
   (0xB8, 0x20000, 0x0, 0x0, 0xB172),
   (0xB8, 0x40000, 0x0, 0x0, 0x162E4),
   (0xB9, 0xA0000, 0x0, 0x0, 0x24D75),
   (0xBA, 0xA0000, 0x0, 0x0, 0x24D75)] = true := by
  decide +kernel

/-- From 48_q16_transcendental.md and the vectors of files 95 to 97. -/
theorem test_answers_q16_log2 : answersAll
  [(0xBC, 0xA0000, 0x0, 0x0, 0x35269),
   (0xBC, 0x0, 0x0, 0x0, 0x0),
   (0xBC, 0x1, 0x0, 0x0, 0xFFFFFFFFFFF00000),
   (0xBC, 0xFFFFFFFF80000000, 0x0, 0x0, 0x0),
   (0xBC, 0x20000, 0x0, 0x0, 0x10000),
   (0xBC, 0x40000, 0x0, 0x0, 0x20000),
   (0xBD, 0xA0000, 0x0, 0x0, 0x35269),
   (0xBE, 0xA0000, 0x0, 0x0, 0x3526A)] = true := by
  decide +kernel

/-- From 48_q16_transcendental.md and the vectors of files 95 to 97. -/
theorem test_answers_q16_pow : answersAll
  [(0xC0, 0x18000, 0x28000, 0x0, 0x2C16D),
   (0xC0, 0x0, 0x20000, 0x0, 0x0),
   (0xC1, 0x18000, 0x28000, 0x0, 0x2C16E),
   (0xC2, 0x18000, 0x28000, 0x0, 0x2C153)] = true := by
  decide +kernel

/-- From 49_q16_trig.md and the vectors of files 95 to 97. -/
theorem test_answers_q16_sin : answersAll
  [(0xC4, 0x10000, 0x0, 0x0, 0xD76A),
   (0xC4, 0xFFFFFFFF80000000, 0x0, 0x0, 0xFFFFFFFFFFFF1277),
   (0xC4, 0x6487F, 0x0, 0x0, 0x0),
   (0xC5, 0x10000, 0x0, 0x0, 0xD76A),
   (0xC6, 0x10000, 0x0, 0x0, 0xD76F)] = true := by
  decide +kernel

/-- From 49_q16_trig.md and the vectors of files 95 to 97. -/
theorem test_answers_q16_cos : answersAll
  [(0xC8, 0x10000, 0x0, 0x0, 0x8A51),
   (0xC8, 0xFFFFFFFFFFFFFFFF, 0x0, 0x0, 0xFFFF),
   (0xC9, 0x10000, 0x0, 0x0, 0x8A51),
   (0xCA, 0x10000, 0x0, 0x0, 0x8A4E)] = true := by
  decide +kernel

/-- From 49_q16_trig.md and the vectors of files 95 to 97. -/
theorem test_answers_q16_tan : answersAll
  [(0xCC, 0x10000, 0x0, 0x0, 0x18EB2),
   (0xCC, 0x19220, 0x0, 0x0, 0xFFFFFFFF9343A57B),
   (0xCD, 0x10000, 0x0, 0x0, 0x18EB2),
   (0xCE, 0x10000, 0x0, 0x0, 0x18EE2)] = true := by
  decide +kernel

/-- From 49_q16_trig.md and the vectors of files 95 to 97. -/
theorem test_answers_q16_asin : answersAll
  [(0xD0, 0x8000, 0x0, 0x0, 0x860A),
   (0xD0, 0x10000, 0x0, 0x0, 0x1921F),
   (0xD0, 0x10001, 0x0, 0x0, 0x0),
   (0xD0, 0xFFFFFFFFFFFF0000, 0x0, 0x0, 0xFFFFFFFFFFFE6DE0),
   (0xD0, 0xFFFFFFFFFFFEFFFF, 0x0, 0x0, 0x0),
   (0xD1, 0x8000, 0x0, 0x0, 0x860A),
   (0xD2, 0x8000, 0x0, 0x0, 0x860F)] = true := by
  decide +kernel

/-- From 49_q16_trig.md and the vectors of files 95 to 97. -/
theorem test_answers_q16_acos : answersAll
  [(0xD4, 0x8000, 0x0, 0x0, 0x10C15),
   (0xD4, 0x10000, 0x0, 0x0, 0x0),
   (0xD4, 0x10001, 0x0, 0x0, 0x0),
   (0xD4, 0xFFFFFFFFFFFF0000, 0x0, 0x0, 0x3243F),
   (0xD4, 0xFFFFFFFFFFFEFFFF, 0x0, 0x0, 0x0),
   (0xD5, 0x8000, 0x0, 0x0, 0x10C14),
   (0xD6, 0x8000, 0x0, 0x0, 0x10C10)] = true := by
  decide +kernel

/-- From 49_q16_trig.md and the vectors of files 95 to 97. -/
theorem test_answers_q16_atan : answersAll
  [(0xD8, 0xA0000, 0x0, 0x0, 0x1789D),
   (0xD8, 0xFFFFFFFF80000000, 0x0, 0x0, 0xFFFFFFFFFFFE6DE1),
   (0xD8, 0xFFFFFFFFFFFFFFFF, 0x0, 0x0, 0x0),
   (0xD9, 0xA0000, 0x0, 0x0, 0x1789D),
   (0xDA, 0xA0000, 0x0, 0x0, 0x1789F)] = true := by
  decide +kernel

/-- From 49_q16_trig.md and the vectors of files 95 to 97. -/
theorem test_answers_q16_atan2 : answersAll
  [(0xDC, 0x30000, 0xFFFFFFFFFFFC0000, 0x0, 0x27F83),
   (0xDC, 0x0, 0x0, 0x0, 0x0),
   (0xDC, 0x0, 0xFFFFFFFFFFFF0000, 0x0, 0x3243F),
   (0xDC, 0xFFFFFFFFFFFF0000, 0x0, 0x0, 0xFFFFFFFFFFFE6DE0),
   (0xDC, 0x10000, 0x0, 0x0, 0x19220),
   (0xDC, 0x40000, 0x30000, 0x0, 0xED64),
   (0xDC, 0x40000, 0xFFFFFFFFFFFD0000, 0x0, 0x236DC),
   (0xDC, 0xFFFFFFFFFFFC0000, 0x30000, 0x0, 0xFFFFFFFFFFFF129C),
   (0xDC, 0xFFFFFFFFFFFC0000, 0xFFFFFFFFFFFD0000, 0x0, 0xFFFFFFFFFFFDC924),
   (0xDC, 0xFFFFFFFFFFFD0000, 0x40000, 0x0, 0xFFFFFFFFFFFF5B44),
   (0xDC, 0xFFFFFFFFFFFD0000, 0xFFFFFFFFFFFC0000, 0x0, 0xFFFFFFFFFFFD807D),
   (0xDC, 0xFFFFFFFF80000000, 0xFFFFFFFF80000000, 0x0, 0xFFFFFFFFFFFDA4D0),
   (0xDD, 0x30000, 0xFFFFFFFFFFFC0000, 0x0, 0x27F83),
   (0xDE, 0x30000, 0xFFFFFFFFFFFC0000, 0x0, 0x27F83)] = true := by
  decide +kernel

/-- From 40_bit_primitives.md and the vectors of files 95 to 97. -/
theorem test_answers_bit_primitives : answersAll
  [(0x60, 0x10000, 0x0, 0x0, 0xF),
   (0x60, 0xFFFFFFFF00000000, 0x0, 0x0, 0x20),
   (0x60, 0x80000000, 0x0, 0x0, 0x0),
   (0x61, 0x400000000, 0x0, 0x0, 0x1D),
   (0x61, 0x8000000000000000, 0x0, 0x0, 0x0),
   (0x62, 0x18000, 0xFFFFFFFFFFFFFFF2, 0x0, 0x60000000),
   (0x62, 0x80000000, 0x1F, 0x0, 0xFFFFFFFFFFFFFFFF),
   (0x62, 0x80000000, 0x3E8, 0x0, 0xFFFFFFFFFFFFFFFF),
   (0x62, 0x7FFFFFFF, 0x20, 0x0, 0x0),
   (0x62, 0xFFFFFFFF, 0xFFFFFFFFFFFFFFE0, 0x0, 0x0),
   (0x62, 0x3, 0xFFFFFFFFFFFFFFE3, 0x0, 0x60000000),
   (0x63, 0xFFFFFFFFFFFFFFF8, 0x1, 0x0, 0xFFFFFFFFFFFFFFFC),
   (0x63, 0xFFFFFFFFFFFFFFFB, 0x40, 0x0, 0xFFFFFFFFFFFFFFFF),
   (0x63, 0x8000000000000000, 0x3F, 0x0, 0xFFFFFFFFFFFFFFFF),
   (0x63, 0x1, 0xFFFFFFFFFFFFFFC1, 0x0, 0x8000000000000000),
   (0x63, 0x123456789ABCDEF0, 0x100000004, 0x0, 0x123456789ABCDEF),
   (0x64, 0xFFFFFFFE00000001, 0x20, 0x0, 0xFFFFFFFE),
   (0x64, 0x8000000000000000, 0x3F, 0x0, 0x1),
   (0x64, 0xFFFFFFFFFFFFFFFF, 0x40, 0x0, 0x0),
   (0x64, 0x1, 0xFFFFFFFFFFFFFFFC, 0x0, 0x10),
   (0x64, 0xFFFFFFFFFFFFFFFF, 0x0, 0x0, 0xFFFFFFFFFFFFFFFF)] = true := by
  decide +kernel

/-- From 41_poly_engine.md and the vectors of files 95 to 97. -/
theorem test_answers_qmul30 : answersAll
  [(0x65, 0x40000000, 0x40000000, 0x0, 0x40000000),
   (0x65, 0xABCDEF0140000000, 0x1234567820000000, 0x0, 0x20000000),
   (0x65, 0x80000000, 0x80000000, 0x0, 0x0)] = true := by
  decide +kernel

/-- From 41_poly_engine.md and the vectors of files 95 to 97. -/
theorem test_answers_evaluators_rcp : answersAll
  [(0xE0, 0x20000000, 0x0, 0x0, 0x2AAAAAAB),
   (0xE0, 0xFFFFFFFF, 0x0, 0x0, 0x20000000),
   (0xE1, 0x20000000, 0x0, 0x0, 0x2AAAA036),
   (0xE2, 0x20000000, 0x0, 0x0, 0x2AAC1FFC),
   (0xE2, 0xC0000000, 0x0, 0x0, 0xFFFFFFFFE6323D7E)] = true := by
  decide +kernel

/-- From 41_poly_engine.md and the vectors of files 95 to 97. -/
theorem test_answers_evaluators_sqrt : answersAll
  [(0xE4, 0x20000000, 0x0, 0x0, 0x4E623850),
   (0xE5, 0x20000000, 0x0, 0x0, 0x4E622B73),
   (0xE6, 0x20000000, 0x0, 0x0, 0x4E640731)] = true := by
  decide +kernel

/-- From 41_poly_engine.md and the vectors of files 95 to 97. -/
theorem test_answers_evaluators_rsqrt : answersAll
  [(0xE8, 0x20000000, 0x0, 0x0, 0x34417AE0),
   (0xE9, 0x20000000, 0x0, 0x0, 0x3441AC0A),
   (0xEA, 0x20000000, 0x0, 0x0, 0x34389EF7)] = true := by
  decide +kernel

/-- From 41_poly_engine.md and the vectors of files 95 to 97. -/
theorem test_answers_evaluators_log2 : answersAll
  [(0xEC, 0x20000000, 0x0, 0x0, 0x2570068E),
   (0xED, 0x12345678, 0x0, 0x0, 0x171CFDA3),
   (0xEE, 0x20000000, 0x0, 0x0, 0x256FC806)] = true := by
  decide +kernel

/-- From 41_poly_engine.md and the vectors of files 95 to 97. -/
theorem test_answers_evaluators_exp2 : answersAll
  [(0xF0, 0x20000000, 0x0, 0x0, 0x5A827A27),
   (0xF0, 0x40000000, 0x0, 0x0, 0xFFFFFFFF80000000),
   (0xF1, 0x20000000, 0x0, 0x0, 0x5A827AB2),
   (0xF2, 0x20000000, 0x0, 0x0, 0x5A801283)] = true := by
  decide +kernel

/-- From 41_poly_engine.md and the vectors of files 95 to 97. -/
theorem test_answers_evaluators_usin : answersAll
  [(0xF4, 0x20000000, 0x0, 0x0, 0x2D413CCF),
   (0xF4, 0x80000000, 0x0, 0x0, 0x0),
   (0xF4, 0x40000000, 0x0, 0x0, 0x40000000),
   (0xF4, 0xC0000000, 0x0, 0x0, 0xFFFFFFFFC0000000),
   (0xF4, 0x7FFFFFFF, 0x0, 0x0, 0x1),
   (0xF4, 0xFFFFFFFF, 0x0, 0x0, 0xFFFFFFFFFFFFFFFE),
   (0xF4, 0x50000000, 0x0, 0x0, 0x3B20D79C),
   (0xF5, 0x20000000, 0x0, 0x0, 0x2D413FA0),
   (0xF6, 0x20000000, 0x0, 0x0, 0x2D41CC22)] = true := by
  decide +kernel

/-- From 41_poly_engine.md and the vectors of files 95 to 97. -/
theorem test_answers_evaluators_atan : answersAll
  [(0xF8, 0x20000000, 0x0, 0x0, 0x1DAC6705),
   (0xF8, 0x3FFFFFFF, 0x0, 0x0, 0x3243F6A8),
   (0xF8, 0x40000000, 0x0, 0x0, 0x3243F6A9),
   (0xF8, 0x80000000, 0x0, 0x0, 0x0),
   (0xF9, 0x12345678, 0x0, 0x0, 0x11BC6BE4),
   (0xF9, 0x3FFFFFFF, 0x0, 0x0, 0x3243F6A8),
   (0xF9, 0x40000000, 0x0, 0x0, 0x3243F6A9),
   (0xFA, 0x20000000, 0x0, 0x0, 0x1DAC778C),
   (0xFA, 0x3FFFFFFF, 0x0, 0x0, 0x3243F6A6),
   (0xFA, 0x40000000, 0x0, 0x0, 0x3243F6A9),
   (0xFA, 0xFFFFFFFF, 0x0, 0x0, 0xFFFFFFFFFFFFFFFF)] = true := by
  decide +kernel

theorem test_answers_reserved : answersAll
  [(0x0B, 1, 2, 3, 0), (0x19, 1, 2, 3, 0), (0x5F, 1, 2, 3, 0), (0x66, 1, 2, 3, 0), (0x7F, 1, 2, 3, 0),
   (0x8B, 1, 2, 3, 0), (0xDF, 1, 2, 3, 0), (0xE3, 1, 2, 3, 0), (0xFF, 1, 2, 3, 0)] = true := by
  decide +kernel

/-! ## The machine around an instruction -/

/-- A unit with a command in flight behind another and a response not yet taken. -/
def busy : State := { inFlight := [⟨0x24, 0x0000000400000000, 0, 0⟩, ⟨0x0B, 1, 2, 3⟩], responses := [7] }

/-- `Sqrt(4.0) = 2.0` joins the pending responses; the other command stays. -/
theorem test_step_busy :
    (match step busy with
     | .next t    => t == { inFlight := [⟨0x0B, 1, 2, 3⟩], responses := [7, 0x0000000200000000] }
     | .fault _   => false
     | .refused _ => false) = true := by decide +kernel

theorem test_withFetchWord_runs_first :
    (match step (busy.withFetchWord 8 0x34) with
     | .next t    => t == { busy with responses := [7, 0x0000000100000000] }
     | .fault _   => false
     | .refused _ => false) = true := by decide +kernel

theorem test_reset_drops_everything : busy.resetEvent = { inFlight := [], responses := [] } := by decide +kernel

/-! ## Witnesses: the hypotheses of each statement that has some are met -/

theorem witness_StepRunsDecodedCommand :
    busy.inFlight = ⟨0x24, 0x0000000400000000, 0, 0⟩ :: [⟨0x0B, 1, 2, 3⟩] ∧
    decode ⟨0x24, 0x0000000400000000, 0, 0⟩ = .ok (.sqrtQ32 0x0000000400000000) := ⟨rfl, rfl⟩

theorem witness_IdleStepChangesNothing : (State.mk [] [7]).inFlight = [] := rfl

theorem witness_ReservedOpcodesAnswerZero :
    (State.mk [⟨0x0B, 1, 2, 3⟩] [7]).inFlight = ⟨0x0B, 1, 2, 3⟩ :: [] ∧ (0x0B : Opcode).toNat ∈ reservedOpcodes := by
  decide +kernel

/-- For each format, and for a reserved opcode, commands that differ in all the words it does not read. -/
theorem witness_UnreadWordsIgnored :
    (opcodeFormat 0x24 = some .f1 ∧ (2 : Word) ≠ 5 ∧ (3 : Word) ≠ 6) ∧
    (opcodeFormat 0x08 = some .f2 ∧ (3 : Word) ≠ 6) ∧ opcodeFormat 0x18 = some .f3 ∧ opcodeFormat 0x0B = none := by
  decide +kernel

theorem witness_UpperHalvesIgnored :
    readsLowHalves 0xC4 ∧ readsLowHalves 0x62 ∧
    (0x1111111100010000 : Word).extractLsb' 0 32 = (0x2222222200010000 : Word).extractLsb' 0 32 :=
  ⟨.inl (by decide), .inr (by decide), by decide⟩

/-- An opcode for each clause: a sign-extended result of either kind, both binary32 results, both counts. -/
theorem witness_EveryInstructionAnswersInItsResultKind :
    answersSigned32 (Instr.addQ16 1 2).opcode ∧ answersSigned32 (Instr.qmul30 1 2).opcode ∧
    (Instr.tofloatQ32 1).opcode.toNat ∈ [0x04, 0x84] ∧ (Instr.tofloatQ16 1).opcode.toNat ∈ [0x04, 0x84] ∧
    (Instr.clzW32 0).opcode.toNat = 0x60 ∧ (Instr.clzW64 0).opcode.toNat = 0x61 :=
  ⟨.inl (by decide), .inr (by decide), by decide, by decide, rfl, rfl⟩

theorem witness_EveryStepKeepsTheLedger :
    LedgerIs [7, 0x0000000200000000, 0] busy ∧
    step busy = .next { inFlight := [⟨0x0B, 1, 2, 3⟩], responses := [7, answerOf (.sqrtQ32 0x0000000400000000)] } :=
  ⟨by show ledger busy = _; decide +kernel, rfl⟩

theorem witness_DivByPowerOfTwoIsExact : (62 : Nat) ≤ Kernel.q32.width - 2 ∧ (30 : Nat) ≤ Kernel.q16.width - 2 := by
  decide

/-- At the ends of the range of exponents, an even one and an odd one. -/
theorem witness_PowersOfTwoAreExact :
    (0 : Nat) ≤ Kernel.q32.width - 2 ∧ (62 : Nat) ≤ Kernel.q32.width - 2 ∧ (61 : Nat) ≤ Kernel.q32.width - 2 ∧
    (30 : Nat) ≤ Kernel.q16.width - 2 ∧ (62 : Nat) % 2 = 0 ∧ (61 : Nat) % 2 = 1 := by decide

/-- The largest double below `2^31` (44_q32_arith.md R242), in range for the Q32.32 kernel. -/
theorem witness_FloatRoundTrip :
    patternExp .binary64 0x41DFFFFFFFFFFFFE ≠ 2 ^ FloatFormat.binary64.expBits - 1 ∧
    |patternValue .binary64 0x41DFFFFFFFFFFFFE| < 2 ^ (Kernel.q32.width - 1 - Kernel.q32.frac) := by
  decide +kernel

theorem witness_DivPreciseTimesDivisor :
    rawValue .q32 0x000003E800000000 ≠ 0 ∧ rawValue .q32 0x000003E800000000 ≠ -2 ^ (Kernel.q32.width - 1) ∧
    |(rawValue .q32 0x0000000A00000000 : ℚ) * 2 ^ Kernel.q32.frac / rawValue .q32 0x000003E800000000| <
      2 ^ (Kernel.q32.width - 1) := by
  have h1 : rawValue .q32 0x000003E800000000 = 4294967296000 := by decide +kernel
  have h2 : rawValue .q32 0x0000000A00000000 = 42949672960 := by decide +kernel
  rw [h1, h2]
  norm_num [Kernel.width, Kernel.frac, abs_of_pos]

theorem witness_RcpIsDivOfOne : 0 < rawValue .q32 0x0000000300000000 ∧ 0 < rawValue .q16 0xFFFFFFFF00000001 := by
  decide +kernel

end Sys2Proof.Tests
end

section
/-! Proofs of the statements about the unit's state: what a response depends on, what a step does, the ledger
(10_state.md R20 to R23). -/

namespace Sys2Proof.Machine

/-! ## The words the instructions deliver -/

theorem deliver_eq_answered (s : State) (r : Word) : deliver s r = .next (s.answered r) := rfl

theorem extractLsb'_eq_lowHalf (x : Word) : x.extractLsb' 0 32 = lowHalf x := by
  ext i hi
  simp [lowHalf, BitVec.getLsbD_eq_getElem (show i < 64 by omega)]

/-- A 32-bit signed result is the sign extension of its own low half. -/
theorem resInt32_eq_signExtend (r : Int) : resInt32 r = ((resInt32 r).extractLsb' 0 32).signExtend 64 := by
  rw [extractLsb'_eq_lowHalf, lowHalf_resInt32]
  rfl

theorem resBits_toNat_le (n : Nat) : (resBits n).toNat ≤ n := by
  rw [resBits, BitVec.toNat_ofNat]
  exact Nat.mod_le _ _

theorem clz_le (n x : Nat) : clz n x ≤ n := by
  unfold clz
  split <;> omega

/-- A rounded significand has `p + 1` bits, or is the carry out of them. -/
theorem roundSignificand_le (p m : Nat) : roundSignificand p m m.log2 ≤ 2 ^ (p + 1) := by
  have hlt : m < 2 ^ (m.log2 + 1) := Nat.lt_log2_self
  unfold roundSignificand
  split
  case isTrue h =>
    calc m * 2 ^ (p - m.log2) ≤ 2 ^ (m.log2 + 1) * 2 ^ (p - m.log2) := Nat.mul_le_mul_right _ hlt.le
      _ = 2 ^ (p + 1) := by rw [← pow_add]; congr 1; omega
  case isFalse h =>
    have hq : m / 2 ^ (m.log2 - p) < 2 ^ (p + 1) := by
      rw [Nat.div_lt_iff_lt_mul (by positivity), ← pow_add]
      exact hlt.trans_eq (by congr 1; omega)
    dsimp only
    split <;> omega

/-- The biased exponent of a value of at most 64 bits, with the carry of the rounding, fits the exponent field. -/
theorem biasedExponent_lt (K : Kernel) (fmt : FloatFormat) {msb : Nat} (h : msb < 64) (carry : Prop) [Decidable carry] :
    ((if carry then (msb : Int) - K.frac + 1 else msb - K.frac) + fmt.bias).toNat < 2 ^ fmt.expBits := by
  cases K <;> cases fmt <;> simp only [Kernel.frac, FloatFormat.bias, FloatFormat.expBits] <;> split <;> omega

/-- The pattern of a raw value lies within the bits of its format (43_kernel_patterns.md R196, R198). -/
theorem toFP_lt (K : Kernel) (fmt : FloatFormat) {x : Int} (hx : x.natAbs < 2 ^ 64) :
    toFP K fmt x < 2 ^ (fmt.expBits + fmt.fracBits + 1) := by
  unfold toFP
  split
  case isTrue => positivity
  case isFalse h0 =>
    have hm : x.natAbs ≠ 0 := by omega
    have hexp := biasedExponent_lt K fmt ((Nat.log2_lt hm).2 hx)
      (roundSignificand fmt.fracBits x.natAbs x.natAbs.log2 = 2 ^ (fmt.fracBits + 1))
    have hsig := roundSignificand_le fmt.fracBits x.natAbs
    have hsign : (if x < 0 then 1 else 0 : Nat) < 2 ^ 1 := by split <;> decide
    refine Nat.or_lt_two_pow (Nat.or_lt_two_pow ?sign ?exp) ?frac
    case sign => exact (Nat.shiftLeft_lt hsign).trans_eq (by rw [add_comm])
    case exp => exact (Nat.shiftLeft_lt hexp).trans (Nat.pow_lt_pow_right (by norm_num) (by omega))
    case frac =>
      have hle : 2 ^ (fmt.fracBits + 1) < 2 ^ (fmt.expBits + fmt.fracBits + 1) :=
        Nat.pow_lt_pow_right (by norm_num) (by cases fmt <;> decide)
      split <;> omega

theorem opnd_natAbs_lt (K : Kernel) (x : Word) : (opnd K x).natAbs < 2 ^ 64 := by
  have h := opnd_range K x
  cases K <;> simp only [Kernel.minValue, Kernel.maxValue, Kernel.width] at h <;> omega

/-! ## Every instruction answers one word -/

/-- What the result kind of an opcode says of the word it answers (30_encoding.md R64). -/
def DeliveredInKind (op : Opcode) (w : Word) : Prop :=
  (answersSigned32 op → w = (w.extractLsb' 0 32).signExtend 64) ∧
  (op.toNat ∈ [0x04, 0x84] → w.toNat < 2 ^ 32) ∧ (op.toNat = 0x60 → w.toNat ≤ 32) ∧ (op.toNat = 0x61 → w.toNat ≤ 64)

/-- The opcodes whose result is a whole 64-bit word: none of the restrictions of `DeliveredInKind` is theirs. -/
def answersWholeWord (op : Opcode) : Bool :=
  op.toNat = 0x83 ∨ op.toNat < 0x80 ∧ op.toNat ∉ [0x04, 0x05, 0x06, 0x07, 0x60, 0x61, 0x62, 0x65]

theorem deliveredInKind_wholeWord {op : Opcode} (h : answersWholeWord op = true) (w : Word) : DeliveredInKind op w := by
  simp only [answersWholeWord, decide_eq_true_eq, List.mem_cons, List.not_mem_nil, or_false] at h
  simp only [DeliveredInKind, answersSigned32, List.mem_cons, List.not_mem_nil, or_false]
  refine ⟨?_, ?_, ?_, ?_⟩ <;> intro hop <;> omega

theorem deliveredInKind_resInt32 {op : Opcode} (h : op.toNat ∉ [0x04, 0x84, 0x60, 0x61]) (r : Int) :
    DeliveredInKind op (resInt32 r) := by
  simp only [List.mem_cons, List.not_mem_nil, or_false] at h
  simp only [DeliveredInKind, List.mem_cons, List.not_mem_nil, or_false]
  exact ⟨fun _ => resInt32_eq_signExtend r, fun _ => by omega, fun _ => by omega, fun _ => by omega⟩

theorem deliveredInKind_tofloat (K : Kernel) {op : Opcode} (h : op.toNat ∈ [0x04, 0x84]) (a : Word) :
    DeliveredInKind op (resBits (toFP K .binary32 (opnd K a))) := by
  have hlt := (resBits_toNat_le _).trans_lt (toFP_lt K .binary32 (opnd_natAbs_lt K a))
  simp only [List.mem_cons, List.not_mem_nil, or_false] at h
  simp only [DeliveredInKind, answersSigned32, List.mem_cons, List.not_mem_nil, or_false]
  exact ⟨fun _ => by omega, fun _ => hlt, fun _ => by omega, fun _ => by omega⟩

theorem deliveredInKind_clzW32 (x : Nat) : DeliveredInKind 0x60 (resBits (clz 32 x)) := by
  have hle := (resBits_toNat_le _).trans (clz_le 32 x)
  simp [DeliveredInKind, answersSigned32, hle]

theorem deliveredInKind_clzW64 (x : Nat) : DeliveredInKind 0x61 (resBits (clz 64 x)) := by
  have hle := (resBits_toNat_le _).trans (clz_le 64 x)
  simp [DeliveredInKind, answersSigned32, hle]

/-- Every instruction answers one word, the same at every state, delivered in its result kind, and changes nothing else.
The named cases are those whose result is no 32-bit signed word. -/
theorem exec_answers_in_kind (i : Instr) :
    ∃ w : Word, (∀ s : State, exec i s = .next (s.answered w)) ∧ DeliveredInKind i.opcode w := by
  cases i with
  | clzW32 a => exact ⟨_, fun _ => rfl, deliveredInKind_clzW32 _⟩
  | clzW64 a => exact ⟨_, fun _ => rfl, deliveredInKind_clzW64 _⟩
  | tofloatQ32 a => exact ⟨_, fun _ => rfl, deliveredInKind_tofloat .q32 (of_decide_eq_true rfl) a⟩
  | tofloatQ16 a => exact ⟨_, fun _ => rfl, deliveredInKind_tofloat .q16 (of_decide_eq_true rfl) a⟩
  | fromintQ32 | fromfloatQ32 | fromdoubleQ32 | todoubleQ32 | addQ32 | subQ32 | mulQ32 | divQ32 | divfastQ32
  | divfastestQ32 | divpreciseQ32 | ceilQ32 | floorQ32 | roundQ32 | fractQ32 | modQ32 | minQ32 | maxQ32 | clampQ32
  | lerpQ32 | rcpQ32 | rcpfastQ32 | rcpfastestQ32 | sqrtQ32 | sqrtfastQ32 | sqrtfastestQ32 | rsqrtQ32 | rsqrtfastQ32
  | rsqrtfastestQ32 | expQ32 | expfastQ32 | expfastestQ32 | exp2Q32 | exp2fastQ32 | exp2fastestQ32 | logQ32
  | logfastQ32 | logfastestQ32 | log2Q32 | log2fastQ32 | log2fastestQ32 | powQ32 | powfastQ32 | powfastestQ32
  | sinQ32 | sinfastQ32 | sinfastestQ32 | cosQ32 | cosfastQ32 | cosfastestQ32 | tanQ32 | tanfastQ32 | tanfastestQ32
  | asinQ32 | asinfastQ32 | asinfastestQ32 | acosQ32 | acosfastQ32 | acosfastestQ32 | atanQ32 | atanfastQ32
  | atanfastestQ32 | atan2Q32 | atan2fastQ32 | atan2fastestQ32 | shrW64 | lshrW64 | todoubleQ16 =>
    exact ⟨_, fun _ => rfl, deliveredInKind_wholeWord rfl _⟩
  | _ => exact ⟨_, fun _ => rfl, deliveredInKind_resInt32 (of_decide_eq_true rfl) _⟩

/-- The state after an instruction is the old one with the instruction's answer added. -/
theorem exec_eq_answered (i : Instr) (s : State) : exec i s = .next (s.answered (answerOf i)) := by
  obtain ⟨w, hw, -⟩ := exec_answers_in_kind i
  simp [answerOf, hw, State.answered]

/-! ## One command, one response -/

theorem respondTo_ok {cmd : Command} {i : Instr} (h : decode cmd = .ok i) (s : State) :
    respondTo cmd s = exec i s := by
  simp [respondTo, h]

theorem respondTo_error {cmd : Command} {e : DecodeError} (h : decode cmd = .error e) (s : State) :
    respondTo cmd s = .next (s.answered 0) := by
  simp [respondTo, h, respondReserved, deliver_eq_answered]

theorem step_idle {s : State} (h : s.inFlight = []) : step s = .next s := by
  simp [step, State.takeCommand_nil h]

theorem step_cons {s : State} {cmd : Command} {rest : List Command} (h : s.inFlight = cmd :: rest) :
    step s = respondTo cmd { s with inFlight := rest } := by
  simp [step, State.takeCommand_cons h]

/-- One word answers a command at every state (10_state.md R22): an instruction's answer, or 0 for a reserved opcode. -/
theorem respondTo_answers_one_word (cmd : Command) :
    ∃ w : Word, ∀ s : State, respondTo cmd s = .next (s.answered w) := by
  cases h : decode cmd with
  | ok i => exact ⟨answerOf i, fun s => by rw [respondTo_ok h, exec_eq_answered]⟩
  | error e => exact ⟨0, respondTo_error h⟩

/-- The one word is the command's answer in a unit just reset, whatever is in flight or pending. -/
theorem respondTo_eq_answered (cmd : Command) (s : State) : respondTo cmd s = .next (s.answered (soloAnswer cmd)) := by
  obtain ⟨w, hw⟩ := respondTo_answers_one_word cmd
  have hsolo : soloAnswer cmd = w := by
    simp [soloAnswer, step_cons (s := ⟨[cmd], []⟩) rfl, hw, State.answered]
  rw [hw, hsolo]

/-- All a step can do: nothing while the unit is idle, else answer the oldest command (10_state.md R22). -/
theorem step_cases {s t : State} (h : step s = .next t) :
    (s.inFlight = [] ∧ t = s) ∨
    ∃ cmd rest, s.inFlight = cmd :: rest ∧ t = State.answered { s with inFlight := rest } (soloAnswer cmd) := by
  cases hs : s.inFlight with
  | nil =>
    rw [step_idle hs] at h
    cases h
    exact .inl ⟨rfl, rfl⟩
  | cons cmd rest =>
    rw [step_cons hs, respondTo_eq_answered] at h
    cases h
    exact .inr ⟨cmd, rest, rfl, rfl⟩

/-! ## The ledger -/

/-- The answer moves from the commands in flight to the pending responses, and its place in the ledger stays. -/
theorem ledger_answered {s : State} {cmd : Command} {rest : List Command} (h : s.inFlight = cmd :: rest) :
    ledger (State.answered { s with inFlight := rest } (soloAnswer cmd)) = ledger s := by
  simp [ledger, State.answered, h]

theorem step_keeps_ledger {s t : State} (h : step s = .next t) : ledger t = ledger s := by
  obtain ⟨-, rfl⟩ | ⟨cmd, rest, hs, rfl⟩ := step_cases h
  · rfl
  · exact ledger_answered hs

/-! ## Unread operand words -/

/-- The opcode values of a format; `none` is the reserved ones (30_encoding.md R65, R67). -/
def opcodesOf : Option Format → List Nat
  | some .f1 => opcodesF1
  | some .f2 => opcodesF2
  | some .f3 => opcodesF3
  | none     => reservedOpcodes

theorem toNat_mem_opcodesOf (op : Opcode) : op.toNat ∈ opcodesOf (opcodeFormat op) := by
  revert op
  decide +kernel

/-- The decoder drops `B` and `C` of a command of format F1 (10_state.md R23). -/
theorem decode_f1 {op : Opcode} (h : op.toNat ∈ opcodesF1) (a b c b' c' : Word) :
    decode { op := op, a := a, b := b, c := c } = decode { op := op, a := a, b := b', c := c' } := by
  obtain ⟨k, hk⟩ := op
  change k ∈ opcodesF1 at h
  fin_cases h <;> rfl

/-- The decoder drops `C` of a command of format F2 (10_state.md R23). -/
theorem decode_f2 {op : Opcode} (h : op.toNat ∈ opcodesF2) (a b c c' : Word) :
    decode { op := op, a := a, b := b, c := c } = decode { op := op, a := a, b := b, c := c' } := by
  obtain ⟨k, hk⟩ := op
  change k ∈ opcodesF2 at h
  fin_cases h <;> rfl

/-- The decoder rejects a reserved opcode without a look at the operand words (30_encoding.md R67). -/
theorem decode_reserved {op : Opcode} (h : op.toNat ∈ reservedOpcodes) (a b c : Word) :
    decode { op := op, a := a, b := b, c := c } = .error (.reservedOpcode op) := by
  obtain ⟨k, hk⟩ := op
  change k ∈ reservedOpcodes at h
  fin_cases h <;> rfl

/-- Commands that agree on the words their format reads decode alike. -/
theorem decode_congr {op : Opcode} {a b c a' b' c' : Word} (ha : (opcodeFormat op).isSome → a = a')
    (hb : opcodeFormat op = some .f2 ∨ opcodeFormat op = some .f3 → b = b') (hc : opcodeFormat op = some .f3 → c = c') :
    decode { op := op, a := a, b := b, c := c } = decode { op := op, a := a', b := b', c := c' } := by
  have hmem := toNat_mem_opcodesOf op
  match hf : opcodeFormat op with
  | none =>
    rw [hf] at hmem
    rw [decode_reserved hmem, decode_reserved hmem]
  | some .f1 =>
    rw [hf] at hmem
    rw [← ha (by simp [hf])]
    exact decode_f1 hmem ..
  | some .f2 =>
    rw [hf] at hmem
    rw [← ha (by simp [hf]), ← hb (.inl hf)]
    exact decode_f2 hmem ..
  | some .f3 => rw [ha (by simp [hf]), hb (.inr hf), hc hf]

/-! ## The obligations -/

/-- Settles O13: the answer a step gives was in the ledger before, at the same place. -/
theorem everyStepKeepsTheLedger : Obligations.EveryStepKeepsTheLedger := by
  intro L s t hs hstep
  exact (step_keeps_ledger hstep).trans hs

/-- Settles O7: an operand word can reach the response only through the decoder. -/
theorem unreadWordsIgnored : Obligations.UnreadWordsIgnored := by
  intro op a b c a' b' c' s ha hb hc
  simp only [respondTo, decode_congr ha hb hc]

/-- Settles O9: the case split over the instructions is `exec_answers_in_kind`. -/
theorem everyInstructionAnswersInItsResultKind : Obligations.EveryInstructionAnswersInItsResultKind := by
  intro i s
  obtain ⟨w, hexec, hkind⟩ := exec_answers_in_kind i
  exact ⟨w, hexec s, hkind⟩

/-- Settles O10: the word is the answer in a unit just reset. -/
theorem responseDependsOnCommandAlone : Obligations.ResponseDependsOnCommandAlone := fun cmd =>
  ⟨soloAnswer cmd, respondTo_eq_answered cmd⟩

/-- Settles O1: the step takes the command, and the decoder names the instruction that answers it. -/
theorem stepRunsDecodedCommand : Obligations.StepRunsDecodedCommand := by
  intro s cmd rest i hs hdec
  rw [step_cons hs, respondTo_ok hdec]

/-- Settles O16: the one step of the issued command leaves its answer alone in the unit. -/
theorem issueStepCollect : Obligations.IssueStepCollect := by
  intro cmd
  have hissued : (State.reset.issue cmd).inFlight = [cmd] := rfl
  exact ⟨State.reset.answered (soloAnswer cmd), by rw [step_cons hissued, respondTo_eq_answered]; rfl, rfl⟩

end Sys2Proof.Machine
end

section
/-! Proofs of the statements about the encoding: the 200-bit command word, the decoder against the encoder, the reserved
opcodes, and the operand words read by their low halves (30_encoding.md R60 to R70). -/

namespace Sys2Proof.Machine

/-! ## The command word -/

/-- The four fields of R60 do not overlap: each is read back from the word they are joined into. -/
theorem ofCmdWord_toCmdWord (cmd : Command) : Command.ofCmdWord cmd.toCmdWord = cmd := by
  obtain ⟨op, a, b, c⟩ := cmd
  simp only [Command.ofCmdWord, Command.toCmdWord, Command.mk.injEq]
  refine ⟨?op, ?a, ?b, BitVec.extractLsb'_append_eq_right⟩
  case op =>
    rw [BitVec.extractLsb'_append_eq_of_le (by decide), BitVec.extractLsb'_append_eq_of_le (by decide)]
    exact BitVec.extractLsb'_append_eq_left
  case a =>
    rw [BitVec.extractLsb'_append_eq_of_le (by decide), BitVec.extractLsb'_append_eq_of_le (by decide)]
    exact BitVec.extractLsb'_append_eq_right
  case b =>
    rw [BitVec.extractLsb'_append_eq_of_le (by decide)]
    exact BitVec.extractLsb'_append_eq_right

/-! ## The decoder and the encoder -/

/-- The command an instruction encodes to decodes to it: for each constructor, the arm of `decode` at its opcode
(30_encoding.md R65, R69). -/
theorem decode_encode (i : Instr) : decode (encode i) = .ok i := by
  cases i <;> (simp only [encode, Instr.opcode, Instr.operands]; rfl)

theorem decodeCmdWord_encodeCmdWord (i : Instr) : decodeCmdWord (encodeCmdWord i) = .ok i := by
  rw [decodeCmdWord, encodeCmdWord, ofCmdWord_toCmdWord, decode_encode]

/-- A word written out that is some instruction's command word decodes to it. -/
theorem decodeCmdWord_of_encodeCmdWord_eq {i : Instr} {w : CmdWord} (h : encodeCmdWord i = w) :
    decodeCmdWord w = .ok i :=
  h ▸ decodeCmdWord_encodeCmdWord i

/-- No opcode has a format and is listed as reserved, and none is without either (30_encoding.md R61, R67). -/
theorem opcodeFormat_eq_none_iff (op : Opcode) : opcodeFormat op = none ↔ op.toNat ∈ reservedOpcodes := by
  revert op
  decide +kernel

/-- A command with an assigned opcode decodes, and the instruction has kept the opcode and the words the format reads. -/
theorem decode_assigned {op : Opcode} {f : Format} (hf : opcodeFormat op = some f) (a b c : Word) :
    ∃ i, decode { op := op, a := a, b := b, c := c } = .ok i ∧
      encode i = { op := op, a := a, b := if f = .f1 then 0 else b, c := if f = .f3 then c else 0 } := by
  have hmem := hf ▸ toNat_mem_opcodesOf op
  obtain ⟨k, hk⟩ := op
  change k ∈ opcodesOf (some f) at hmem
  cases f <;> (fin_cases hmem <;> exact ⟨_, rfl, rfl⟩)

/-! ## Operand words read by their low halves -/

/-- The opcode values of `readsLowHalves`, for a split over them. -/
def lowHalfOpcodes : List Nat := [0x00, 0x01, 0x60, 0x62, 0x65, 0x80, 0x81] ++ List.range' 0x83 125

theorem mem_lowHalfOpcodes_iff (op : Opcode) : op.toNat ∈ lowHalfOpcodes ↔ readsLowHalves op := by
  have hlt : op.toNat < 256 := op.isLt
  simp only [lowHalfOpcodes, readsLowHalves, List.mem_append, List.mem_cons, List.not_mem_nil, or_false,
    List.mem_range'_1]
  omega

/-- Each of these opcodes delivers one word (a reserved one 0), and every reading of an operand in that word is a reading
of its low half (30_encoding.md R63). -/
theorem respondTo_congr_lowHalf {op : Opcode} (h : readsLowHalves op) {a b c a' b' c' : Word}
    (ha : lowHalf a = lowHalf a') (hb : lowHalf b = lowHalf b') (hc : lowHalf c = lowHalf c') (s : State) :
    respondTo { op := op, a := a, b := b, c := c } s = respondTo { op := op, a := a', b := b', c := c' } s := by
  have hmem := (mem_lowHalfOpcodes_iff op).2 h
  obtain ⟨k, hk⟩ := op
  change k ∈ lowHalfOpcodes at hmem
  fin_cases hmem <;>
    (change deliver s _ = deliver s _
     simp only [opnd_q16, opndInt32, opndBits32, opndFloat, ha, hb, hc])

/-! ## The obligations of the encoding -/

/-- Settles O4: the command word gives its four fields back, and the decoder the instruction from them. -/
theorem decodeOfEncodedInstruction : Obligations.DecodeOfEncodedInstruction := fun i =>
  ⟨decodeCmdWord_encodeCmdWord i, congrArg Command.op (ofCmdWord_toCmdWord (encode i))⟩

/-- Settles O3: the step takes the command, and the decoder rejects it without a look at the operand words. -/
theorem reservedOpcodesAnswerZero : Obligations.ReservedOpcodesAnswerZero := by
  refine ⟨rfl, fun s cmd rest hs hres => ?_⟩
  rw [step_cons hs, respondTo_error (decode_reserved hres ..)]

/-- Settles O5: the opcode has no format and is reserved, or has one and the command decodes by it. -/
theorem decodeIsExact : Obligations.DecodeIsExact := by
  intro cmd
  have hiff := opcodeFormat_eq_none_iff cmd.op
  cases hf : opcodeFormat cmd.op with
  | none => exact .inl ⟨hiff.1 hf, decode_reserved (hiff.1 hf) ..⟩
  | some f =>
    obtain ⟨i, hdec, henc⟩ := decode_assigned hf cmd.a cmd.b cmd.c
    exact .inr ⟨fun hres => by simp [hiff.2 hres] at hf, i, f, hdec, rfl, henc⟩

/-- Settles O8: the first clause is `respondTo_congr_lowHalf`; the two shifts read their amount as an `int`. -/
theorem upperHalvesIgnored : Obligations.UpperHalvesIgnored := by
  simp only [Obligations.UpperHalvesIgnored, extractLsb'_eq_lowHalf]
  refine ⟨fun op a b c a' b' c' s h ha hb hc => respondTo_congr_lowHalf h ha hb hc s, fun a b b' s hb => ?_⟩
  simp only [exec, execShrW64, execLshrW64, opndInt32, hb, and_self]

/-- Settles O6: each word is the command word of its instruction, and decodes as every such word does. -/
theorem writtenOutCommandsDecode : Obligations.WrittenOutCommandsDecode := by
  refine ⟨?_, ?_, ?_, ?_, ?_, ?_, ?_, ?_⟩ <;> exact decodeCmdWord_of_encodeCmdWord_eq rfl

end Sys2Proof.Machine
end

section
/-! Proofs of the statements about the bit primitives: the leading-zero counts and the direction-aware shifts, in which the
integer primitives of the model become the shifts of a bit vector (40_bit_primitives.md R100 to R107). -/

namespace Sys2Proof.Machine

/-! ## The leading-zero count -/

theorem clz_zero (n : Nat) : clz n 0 = n := rfl

theorem clz_of_ne_zero {x : Nat} (n : Nat) (hx : x ≠ 0) : clz n x = n - 1 - x.log2 := if_neg hx

/-- A word is below the power of two that its leading zeros leave room for, and reaches half of it (40_bit_primitives.md
R100). -/
theorem clz_bounds {n x : Nat} (hx : x < 2 ^ n) :
    x < 2 ^ (n - clz n x) ∧ (clz n x < n → 2 ^ (n - 1 - clz n x) ≤ x) := by
  rcases eq_or_ne x 0 with rfl | h0
  · simp [clz_zero]
  · have htop : x.log2 < n := (Nat.log2_lt h0).2 hx
    have hwidth : n - clz n x = x.log2 + 1 := by rw [clz_of_ne_zero n h0]; omega
    have hhalf : n - 1 - clz n x = x.log2 := by omega
    rw [hwidth, hhalf]
    exact ⟨Nat.lt_log2_self, fun _ => Nat.log2_self_le h0⟩

/-! ## Shifts of integers as shifts of words -/

theorem ofInt_two_pow (n k : Nat) : BitVec.ofInt n (2 ^ k) = BitVec.twoPow n k := by
  apply BitVec.eq_of_toNat_eq
  rw [BitVec.toNat_twoPow, ← BitVec.toNat_ofNat, ← BitVec.ofInt_natCast]
  push_cast
  rfl

theorem ofInt_mul_two_pow (n : Nat) (v : Int) (k : Nat) : BitVec.ofInt n (v * 2 ^ k) = BitVec.ofInt n v <<< k := by
  rw [BitVec.ofInt_mul, ofInt_two_pow, BitVec.shiftLeft_eq_mul_twoPow]

theorem ofInt_toInt_div_two_pow {n : Nat} (x : BitVec n) (k : Nat) :
    BitVec.ofInt n (x.toInt / 2 ^ k) = x.sshiftRight k := by
  rw [BitVec.sshiftRight_eq, Int.shiftRight_eq_div_pow]
  push_cast
  rfl

theorem ofInt_toNat {n : Nat} (x : BitVec n) : BitVec.ofInt n (x.toNat : Int) = x := by
  rw [BitVec.ofInt_natCast, BitVec.ofNat_toNat, BitVec.setWidth_eq]

theorem ofInt_toNat_div_two_pow {n : Nat} (x : BitVec n) (k : Nat) :
    BitVec.ofInt n ((x.toNat : Int) / 2 ^ k) = x >>> k := by
  have hcast : (x.toNat : Int) / 2 ^ k = ((x >>> k).toNat : Int) := by
    rw [BitVec.toNat_ushiftRight, Nat.shiftRight_eq_div_pow]
    push_cast
    rfl
  rw [hcast, ofInt_toNat]

/-- `SHR` of an integer is, on its low bits, the right shift or the left shift the sign of the amount names; what the right
shift brings in is the caller's `right` (00_scope.md R11). -/
theorem ofInt_shr {n : Nat} {v : Int} {x : BitVec n} {right : Nat → BitVec n} (hx : BitVec.ofInt n v = x)
    (hright : ∀ k : Nat, BitVec.ofInt n (v / 2 ^ k) = right k) (amount : Int) :
    BitVec.ofInt n (shr v amount) = if 0 ≤ amount then right amount.toNat else x <<< (-amount).toNat := by
  split
  case isTrue h =>
    obtain ⟨k, rfl⟩ := Int.eq_ofNat_of_zero_le h
    rw [shr_ofNat, hright, Int.toNat_natCast]
  case isFalse h =>
    obtain ⟨k, hk⟩ := Int.eq_ofNat_of_zero_le (by omega : 0 ≤ -amount)
    obtain rfl : amount = -(k : Int) := by omega
    rw [shr_neg, ofInt_mul_two_pow, hx, neg_neg, Int.toNat_natCast]

/-- `ShiftRight_N` of a word of `N` bits read as signed is the arithmetic shift (40_bit_primitives.md R103). -/
theorem ofInt_shiftRight {n : Nat} (hn : 0 < n) (x : BitVec n) (amount : Int) :
    BitVec.ofInt n (shiftRight n x.toInt amount) =
      if 0 ≤ amount then x.sshiftRight amount.toNat else x <<< (-amount).toNat := by
  have hpow : (2 : Int) ^ n = 2 * 2 ^ (n - 1) := (mul_pow_sub_one hn.ne' 2).symm
  have hl := BitVec.le_two_mul_toInt (x := x)
  have hu := BitVec.two_mul_toInt_lt (x := x)
  rw [shiftRight_eq hn (by omega) (by omega), ofInt_wrap le_rfl]
  exact ofInt_shr BitVec.ofInt_toInt (ofInt_toInt_div_two_pow x) amount

/-- Reduction to the word's own width does not change its bits. -/
theorem ofInt_unsigned (n : Nat) (v : Int) : BitVec.ofInt n (unsigned n v) = BitVec.ofInt n v := by
  apply BitVec.eq_of_toNat_eq
  simp [BitVec.toNat_ofInt, unsigned]

theorem unsigned_toNat {n : Nat} (x : BitVec n) : unsigned n x.toNat = x.toNat :=
  Int.emod_eq_of_lt (by positivity) (by exact_mod_cast x.isLt)

/-- `LogicalShiftRight` of a 64-bit pattern is the zero-filling shift (40_bit_primitives.md R106). -/
theorem ofInt_logicalShiftRight (x : Word) (amount : Int) :
    BitVec.ofInt 64 (logicalShiftRight x.toNat amount) =
      if 0 ≤ amount then x >>> amount.toNat else x <<< (-amount).toNat := by
  rw [logicalShiftRight_eq, ofInt_unsigned, unsigned_toNat]
  exact ofInt_shr (ofInt_toNat x) (ofInt_toNat_div_two_pow x) amount

/-! ## The instructions -/

theorem exec_clzW32 (a : Word) (s : State) :
    exec (.clzW32 a) s = .next (s.answered (BitVec.ofNat 64 (clz 32 (lowHalf a).toNat))) := rfl

theorem exec_clzW64 (a : Word) (s : State) :
    exec (.clzW64 a) s = .next (s.answered (BitVec.ofNat 64 (clz 64 a.toNat))) := rfl

theorem exec_shrW32 (a b : Word) (s : State) :
    exec (.shrW32 a b) s = .next (s.answered
      ((BitVec.ofInt 32 (shiftRight 32 (lowHalf a).toInt (lowHalf b).toInt)).signExtend 64)) := rfl

theorem exec_shrW64 (a b : Word) (s : State) :
    exec (.shrW64 a b) s = .next (s.answered (BitVec.ofInt 64 (shiftRight 64 a.toInt (lowHalf b).toInt))) := rfl

theorem exec_lshrW64 (a b : Word) (s : State) :
    exec (.lshrW64 a b) s = .next (s.answered (BitVec.ofInt 64 (logicalShiftRight a.toNat (lowHalf b).toInt))) := rfl

/-! ## The obligations of the bit primitives -/

/-- Settles O18: the arithmetic shift at both widths, by the amount in the low half of `B`. -/
theorem shiftRightIsDirectionAware : Obligations.ShiftRightIsDirectionAware := by
  intro a b s
  simp only [extractLsb'_eq_lowHalf]
  constructor
  · rw [exec_shrW32, ofInt_shiftRight (by decide)]
  · rw [exec_shrW64, ofInt_shiftRight (by decide)]

/-- Settles O19: the zero-filling shift, by the amount in the low half of `B`. -/
theorem logicalShiftFillsWithZeros : Obligations.LogicalShiftFillsWithZeros := by
  intro a b s
  rw [extractLsb'_eq_lowHalf, exec_lshrW64, ofInt_logicalShiftRight]

/-- Settles O17: the count is the model's `clz`, with its two bounds at either width. -/
theorem clzCountsLeadingZeros : Obligations.ClzCountsLeadingZeros := by
  intro a s
  rw [extractLsb'_eq_lowHalf]
  exact ⟨⟨_, exec_clzW32 a s, clz_le .., clz_bounds (lowHalf a).isLt⟩, ⟨_, exec_clzW64 a s, clz_le .., clz_bounds a.isLt⟩⟩

end Sys2Proof.Machine
end

section
/-! Proofs of the statements about the evaluation engine: the integer formulas of the model are the words of a 64-bit
product datapath, and the values that hold exactly (41_poly_engine.md R120 to R152). -/

namespace Sys2Proof.Machine

/-! ## The datapath computes the quantized product -/

theorem toInt_ofInt_eq_wrap (n : Nat) (v : Int) : (BitVec.ofInt n v).toInt = wrap n v := BitVec.toInt_ofInt v

theorem wrap_toInt {n : Nat} (x : BitVec n) : wrap n x.toInt = x.toInt := by
  rw [← toInt_ofInt_eq_wrap, BitVec.ofInt_toInt]

theorem lowHalf_ofInt (v : Int) : lowHalf (BitVec.ofInt 64 v) = BitVec.ofInt 32 v := by
  apply BitVec.eq_of_toNat_eq
  simp only [lowHalf, BitVec.toNat_setWidth, BitVec.toNat_ofInt]
  omega

/-- The product of two sign-extended 32-bit words does not overflow 64 bits. -/
theorem toInt_mul_signExtend (x y : BitVec 32) :
    (x.signExtend 64 * y.signExtend 64).toInt = x.toInt * y.toInt := by
  have hl := BitVec.le_toInt_mul_toInt (x := x) (y := y)
  have hu := BitVec.toInt_mul_toInt_le (x := x) (y := y)
  rw [BitVec.toInt_mul, BitVec.toInt_signExtend_of_le (by decide), BitVec.toInt_signExtend_of_le (by decide)]
  exact wrap_eq_self (n := 64) (by decide) (by omega) (by omega)

/-- The low half of the shifted 64-bit product is the floored product on its low 32 bits (41_poly_engine.md R122). -/
theorem lowHalf_shiftedProduct (x y : BitVec 32) :
    lowHalf ((x.signExtend 64 * y.signExtend 64).sshiftRight 30) = BitVec.ofInt 32 (shr (x.toInt * y.toInt) 30) := by
  rw [← ofInt_toInt_div_two_pow, toInt_mul_signExtend, lowHalf_ofInt]
  rfl

/-- One step of the datapath is one step of a Horner chain (41_poly_engine.md R124). -/
theorem toInt_mulAdd30 (x y c : BitVec 32) :
    (mulAdd30 x y c).toInt = wrap 32 (shr (x.toInt * y.toInt) 30 + c.toInt) := by
  have hstep : mulAdd30 x y c = lowHalf ((x.signExtend 64 * y.signExtend 64).sshiftRight 30) + c := rfl
  rw [hstep, lowHalf_shiftedProduct, ← toInt_ofInt_eq_wrap, BitVec.ofInt_add, BitVec.ofInt_toInt]

/-- The quantized product is one step that adds nothing (41_poly_engine.md R122). -/
theorem qmul30_toInt (x y : BitVec 32) : qmul30 x.toInt y.toInt = (mulAdd30 x y 0).toInt := by
  have hadd : shr (x.toInt * y.toInt) 30 + (0 : BitVec 32).toInt = shr (x.toInt * y.toInt) 30 := Int.add_zero _
  rw [toInt_mulAdd30, hadd]
  rfl

/-! ## Horner chains -/

/-- The coefficients of a chain are 32-bit signed words. -/
def FitsWords (p : Poly) : Prop := ∀ c ∈ p, -(2 ^ 31) ≤ c ∧ c < 2 ^ 31

theorem fitsWords_of_wf {d : Nat} {p : Poly} (h : Poly.wf d p = true) : FitsWords p := by
  intro c hc
  simp only [Poly.wf, Bool.and_eq_true, List.all_eq_true] at h
  simpa [fitsSigned] using h.2 c hc

/-- Any row of a table of words is of words, and so is the empty row read where the table has none. -/
theorem fitsWords_row {bits d : Nat} {table : LutTable} (h : LutTable.wf bits d table = true) (j : Nat) :
    FitsWords (table.getD j []) := by
  simp only [LutTable.wf, Bool.and_eq_true, List.all_eq_true] at h
  rw [List.getD_eq_getElem?_getD]
  cases hrow : table[j]? with
  | none => simp [FitsWords]
  | some row => exact fitsWords_of_wf (h.2 row (List.mem_of_getElem? hrow))

/-- One step of the datapath with a coefficient that is a 32-bit word. -/
theorem toInt_mulAdd30_ofInt (x y : BitVec 32) {c : Int} (hc : -(2 ^ 31) ≤ c ∧ c < 2 ^ 31) :
    (mulAdd30 x y (BitVec.ofInt 32 c)).toInt = wrap 32 (shr (x.toInt * y.toInt) 30 + c) := by
  rw [toInt_mulAdd30, toInt_ofInt_eq_wrap, wrap_eq_self (v := c) (by decide) hc.1 hc.2]

/-- A Horner chain over 32-bit coefficients is the chain of datapath steps (41_poly_engine.md R124). -/
theorem horner_toInt (x : BitVec 32) : ∀ {p : Poly}, FitsWords p → horner x.toInt p = (hornerWords x p).toInt
  | [], _ => rfl
  | [c], hp => by
    have hc := hp c (by simp)
    have hzero : shr (x.toInt * (0 : BitVec 32).toInt) 30 = 0 := by
      rw [show (0 : BitVec 32).toInt = 0 from rfl, mul_zero]; rfl
    have hlast : (hornerWords x [c]).toInt = wrap 32 (shr (x.toInt * (0 : BitVec 32).toInt) 30 + c) :=
      toInt_mulAdd30_ofInt x 0 hc
    rw [hlast, hzero, zero_add, wrap_eq_self (by decide) hc.1 hc.2, horner_singleton]
  | c :: d :: cs, hp => by
    have ih := horner_toInt x (p := d :: cs) fun e he => hp e (List.mem_cons_of_mem c he)
    rw [horner_cons, ih]
    exact (toInt_mulAdd30_ofInt x (hornerWords x (d :: cs)) (hp c List.mem_cons_self)).symm

/-- At argument 0 a Horner chain is its first coefficient, the empty chain too (41_poly_engine.md R152 (a)). -/
theorem horner_zero_eq_getD {p : Poly} (hp : FitsWords p) : horner 0 p = p.getD 0 0 := by
  cases p with
  | nil => rfl
  | cons c cs => exact horner_zero cs (hp c List.mem_cons_self)

/-- At argument 1.0 every step multiplies by 1, so a Horner chain is the sum of its coefficients (41_poly_engine.md R152
(c)). -/
theorem horner_one30 : ∀ {p : Poly}, FitsWords p → horner one30 p = wrap 32 p.sum
  | [], _ => rfl
  | [c], hp => by
    have hc := hp c (by simp)
    simp [wrap_eq_self (n := 32) (by decide) hc.1 hc.2]
  | c :: d :: cs, hp => by
    have ih := horner_one30 (p := d :: cs) fun e he => hp e (List.mem_cons_of_mem c he)
    have hone (y : Int) : shr (one30 * y) 30 = y := Int.mul_ediv_cancel_left y (by decide)
    rw [horner_cons, ih, hone, List.sum_cons (a := c), add_comm c]
    exact Int.bmod_add_bmod

/-! ## Table evaluators -/

theorem evalLut_eq (bits : Nat) (table : LutTable) (k : Int) :
    evalLut bits table k = horner (bitField (unsigned 32 k) (29 - bits) 0)
      (table.getD (bitField (unsigned 32 k) 29 (30 - bits)).toNat []) := rfl

theorem unsigned_toInt {n : Nat} (x : BitVec n) : unsigned n x.toInt = x.toNat := by
  rw [← unsigned_toNat, unsigned, unsigned, BitVec.toInt_eq_toNat_bmod]
  exact_mod_cast Int.bmod_emod

theorem bitField_natCast (n hi lo : Nat) : bitField n hi lo = (n / 2 ^ lo % 2 ^ (hi - lo + 1) : Nat) := by
  push_cast
  rfl

/-- A field of the bits of a word, as R10 reads it, is the part of the word from bit `lo` on. -/
theorem bitField_toNat {n : Nat} (x : BitVec n) (hi lo : Nat) :
    bitField x.toNat hi lo = (x.extractLsb' lo (hi - lo + 1)).toNat := by
  rw [bitField_natCast, BitVec.extractLsb'_toNat, Nat.shiftRight_eq_div_pow]

/-- A part of fewer than 32 bits is not negative as a 32-bit word. -/
theorem toInt_setWidth_of_lt {m : Nat} (hm : m < 32) (x : BitVec m) : (x.setWidth 32).toInt = x.toNat := by
  have hx : x.toNat < 2 ^ m := x.isLt
  have hpow : 2 ^ m ≤ 2 ^ 31 := Nat.pow_le_pow_right (by decide) (by omega)
  rw [BitVec.toInt_setWidth]
  exact wrap_eq_self (n := 32) (by decide) (by omega) (by omega)

/-- A table evaluator is the datapath on the row the top bits select (41_poly_engine.md R126). -/
theorem evalLut_toInt {bits d : Nat} (hbits : 0 < bits ∧ bits < 30) (k : BitVec 32) {table : LutTable}
    (h : LutTable.wf bits d table = true) : evalLut bits table k.toInt = (lutWords bits k table).toInt := by
  obtain ⟨hpos, hlt⟩ := hbits
  have hrowWidth : 29 - (30 - bits) + 1 = bits := by omega
  have hargWidth : 29 - bits - 0 + 1 = 30 - bits := by omega
  rw [evalLut_eq, unsigned_toInt, bitField_toNat, bitField_toNat, hrowWidth, hargWidth, Int.toNat_natCast,
    ← toInt_setWidth_of_lt (by omega)]
  exact horner_toInt _ (fitsWords_row h _)

/-- The operand at the start of segment `j` of a table lies below 1.0. -/
theorem segmentStart_lt {bits j : Nat} (hle : bits ≤ 30) (hj : j < 2 ^ bits) : j * 2 ^ (30 - bits) < 2 ^ 30 :=
  calc j * 2 ^ (30 - bits) < 2 ^ bits * 2 ^ (30 - bits) := Nat.mul_lt_mul_of_pos_right hj (by positivity)
    _ = 2 ^ 30 := by rw [← pow_add]; congr 1; omega

/-- At the start of segment `j` a table evaluator is the first entry of row `j` (41_poly_engine.md R152 (b)). -/
theorem evalLut_segmentStart {bits d : Nat} (hbits : 0 < bits ∧ bits < 30) {table : LutTable}
    (h : LutTable.wf bits d table = true) {j : Nat} (hj : j < 2 ^ bits) :
    evalLut bits table (j * 2 ^ (30 - bits) : Nat) = (table.getD j []).getD 0 0 := by
  have hstart := segmentStart_lt hbits.2.le hj
  have hword : unsigned 32 (j * 2 ^ (30 - bits) : Nat) = (j * 2 ^ (30 - bits) : Nat) :=
    Int.emod_eq_of_lt (by positivity) (by exact_mod_cast hstart.trans (by decide))
  have hrow : bitField (j * 2 ^ (30 - bits) : Nat) 29 (30 - bits) = j := by
    rw [bitField_natCast, Nat.mul_div_cancel _ (by positivity), Nat.mod_eq_of_lt]
    rwa [show 29 - (30 - bits) + 1 = bits by omega]
  have harg : bitField (j * 2 ^ (30 - bits) : Nat) (29 - bits) 0 = 0 := by
    rw [bitField_natCast, show 29 - bits - 0 + 1 = 30 - bits by omega, pow_zero, Nat.div_one, Nat.mul_mod_left]
    rfl
  rw [evalLut_eq, hword, hrow, harg, Int.toNat_natCast]
  exact horner_zero_eq_getD (fitsWords_row h j)

/-! ## The unit sine -/

/-- The fold leaves alone the phases within a quarter turn of 0: there bits 31 and 30 are the same (41_poly_engine.md
R128). -/
theorem topBits_eq_iff (z : BitVec 32) :
    z.getLsbD 31 = z.getLsbD 30 ↔ z.toNat < 2 ^ 30 ∨ 3 * 2 ^ 30 ≤ z.toNat := by
  simp only [BitVec.getLsbD, Nat.testBit_eq_decide_div_mod_eq, decide_eq_decide]
  omega

theorem foldWord_of_near {z : BitVec 32} (h : z.getLsbD 31 = z.getLsbD 30) : foldWord z = z := if_pos h

theorem foldWord_of_far {z : BitVec 32} (h : z.getLsbD 31 ≠ z.getLsbD 30) : foldWord z = 0x80000000#32 - z := if_neg h

theorem toInt_mirror (z : BitVec 32) : (0x80000000#32 - z).toInt = wrap 32 (2 ^ 31 - z.toInt) := by
  have hhalf : BitVec.ofInt 32 (2 ^ 31) = 0x80000000#32 := rfl
  rw [← toInt_ofInt_eq_wrap, sub_eq_add_neg (2 ^ 31), BitVec.ofInt_add, BitVec.ofInt_neg, BitVec.ofInt_toInt, hhalf,
    BitVec.sub_eq_add_neg]

theorem foldPhase_toInt (z : BitVec 32) : foldPhase z.toInt = (foldWord z).toInt := by
  have hbits : bitField z.toInt 31 31 = bitField z.toInt 30 30 ↔ z.getLsbD 31 = z.getLsbD 30 := by
    rw [topBits_eq_iff, BitVec.toInt_eq_toNat_cond]
    simp only [bitField]
    omega
  unfold foldPhase
  rw [wrap_toInt]
  by_cases h : z.getLsbD 31 = z.getLsbD 30
  · rw [if_neg (not_not.2 (hbits.2 h)), foldWord_of_near h]
  · rw [if_pos (mt hbits.1 h), foldWord_of_far h, toInt_mirror]

theorem lowHalf_mirror (z : Word) : lowHalf (0x80000000 - z) = 0x80000000#32 - lowHalf z := by
  have hhalf : lowHalf 0x80000000 = 0x80000000#32 := rfl
  rw [← hhalf, BitVec.sub_eq_add_neg, BitVec.sub_eq_add_neg, lowHalf, BitVec.setWidth_add _ _ (by decide),
    BitVec.setWidth_neg_of_le (by decide)]
  rfl

/-- A phase and its mirror image fold to the same word: one of the two is within a quarter turn of 0, or they are equal
(41_poly_engine.md R128). -/
theorem foldWord_mirror (z : BitVec 32) : foldWord (0x80000000#32 - z) = foldWord z := by
  have hmirror : (0x80000000#32 - z).toNat = (3 * 2 ^ 31 - z.toNat) % 2 ^ 32 := by
    rw [BitVec.toNat_sub]
    congr 1
    simp only [BitVec.toNat_ofNat]
    omega
  have hback : 0x80000000#32 - (0x80000000#32 - z) = z := sub_sub_cancel _ _
  have hz := topBits_eq_iff z
  have hm := topBits_eq_iff (0x80000000#32 - z)
  have hmeet : z.toNat = 2 ^ 30 ∨ z.toNat = 3 * 2 ^ 30 → 0x80000000#32 - z = z := fun h =>
    BitVec.eq_of_toNat_eq (by omega)
  rcases eq_or_ne (z.getLsbD 31) (z.getLsbD 30) with hnear | hfar
  · have hz' := hz.1 hnear
    rcases eq_or_ne ((0x80000000#32 - z).getLsbD 31) ((0x80000000#32 - z).getLsbD 30) with hnear' | hfar'
    · have hm' := hm.1 hnear'
      rw [hmeet (by omega)]
    · rw [foldWord_of_near hnear, foldWord_of_far hfar', hback]
  · have hz' := mt hz.2 hfar
    rcases eq_or_ne ((0x80000000#32 - z).getLsbD 31) ((0x80000000#32 - z).getLsbD 30) with hnear' | hfar'
    · rw [foldWord_of_far hfar, foldWord_of_near hnear']
    · have hm' := mt hm.2 hfar'
      rw [hmeet (by omega)]

theorem fitsWords_usinTable : ∀ t : Tier, FitsWords (usinTable specRom t)
  | .default => fitsWords_of_wf (d := 4) (by decide)
  | .fast    => fitsWords_of_wf (d := 3) (by decide)
  | .fastest => fitsWords_of_wf (d := 2) (by decide)

/-- The unit sine is its datapath: fold, square, chain, product (41_poly_engine.md R128). -/
theorem unitSin_toInt (t : Tier) (z : BitVec 32) :
    unitSin specRom t z.toInt = (usinWords z (usinTable specRom t)).toInt := by
  unfold unitSin usinWords
  simp only [foldPhase_toInt, qmul30_toInt, horner_toInt _ (fitsWords_usinTable t)]

theorem qmul30_zero (y : Int) : qmul30 y 0 = 0 := by
  rw [qmul30, mul_zero]
  rfl

/-- The product with 1.0 is the word itself. -/
theorem qmul30_one30 {z : Int} (hl : -(2 ^ 31) ≤ z) (hu : z < 2 ^ 31) : qmul30 one30 z = z := by
  have hone : shr (one30 * z) 30 = z := Int.mul_ediv_cancel_left z (by decide)
  rw [qmul30, hone, wrap_eq_self (by decide) hl hu]

theorem unitSin_of_fold_zero (rom : Rom) (t : Tier) {z : Int} (hz : foldPhase z = 0) : unitSin rom t z = 0 := by
  simp only [unitSin, hz, qmul30_zero]

/-- The coefficients of each unit-sine table add up to 1.0 (42_rom_tables.md R176 to R178). -/
theorem sum_usinTable : ∀ t : Tier, (usinTable specRom t).sum = one30
  | .default | .fast | .fastest => by decide

/-- A quarter turn either way: the square of the phase is 1.0, the chain is the sum of the table, which is 1.0, and the
product is the phase (41_poly_engine.md R152 (c)). -/
theorem unitSin_of_square_one (t : Tier) {z : Int} (hl : -(2 ^ 31) ≤ z) (hu : z < 2 ^ 31) (hfold : foldPhase z = z)
    (hsquare : qmul30 z z = one30) : unitSin specRom t z = z := by
  have hchain : horner one30 (usinTable specRom t) = one30 := by
    rw [horner_one30 (fitsWords_usinTable t), sum_usinTable]
    rfl
  simp only [unitSin, hfold, hsquare, hchain, qmul30_one30 hl hu]

/-! ## The arctangent -/

/-- The arctangent of a ratio below 1.0 (41_poly_engine.md R129). -/
def atanBelowOne (rom : Rom) (t : Tier) (k : Int) : Int :=
  match t with
  | .default => evalLut 3 rom.atanP5l8 k
  | .fast    => evalLut 3 rom.atanP3l8 k
  | .fastest => qmul30 k (horner (qmul30 k k) rom.atanP4)

/-- The datapath of an arctangent evaluator below 1.0 (41_poly_engine.md R129). -/
def atanWords (t : Tier) (k : BitVec 32) : BitVec 32 :=
  match t with
  | .default => lutWords 3 k specRom.atanP5l8
  | .fast    => lutWords 3 k specRom.atanP3l8
  | .fastest => mulAdd30 k (hornerWords (mulAdd30 k k 0) specRom.atanP4) 0

theorem atanEval_eq (rom : Rom) (t : Tier) (k : Int) :
    atanEval rom t k = if one30 ≤ wrap 32 k then rom.atanOne else atanBelowOne rom t (wrap 32 k) := rfl

theorem atanEval_of_lt (rom : Rom) (t : Tier) {k : Int} (hl : -(2 ^ 31) ≤ k) (hu : k < one30) :
    atanEval rom t k = atanBelowOne rom t k := by
  have hk : wrap 32 k = k := wrap_eq_self (by decide) hl (hu.trans (by decide))
  rw [atanEval_eq, hk, if_neg hu.not_ge]

theorem atanBelowOne_toInt (t : Tier) (k : BitVec 32) : atanBelowOne specRom t k.toInt = (atanWords t k).toInt := by
  cases t with
  | default => exact evalLut_toInt (d := 5) (by decide) k (by decide)
  | fast => exact evalLut_toInt (d := 3) (by decide) k (by decide)
  | fastest =>
    have hp : FitsWords specRom.atanP4 := fitsWords_of_wf (d := 4) (by decide)
    simp only [atanBelowOne, atanWords, qmul30_toInt, horner_toInt _ hp]

/-! ## The instructions -/

theorem opndInt32_eq_toInt (a : Word) : opndInt32 a = (lowHalf a).toInt := rfl

/-- A result that is a 32-bit word read as a number is delivered as that word, sign-extended (30_encoding.md R64). -/
theorem deliver_toInt {r : Int} {w : BitVec 32} (h : r = w.toInt) (s : State) :
    deliver s (resInt32 r) = .next (s.answered (w.signExtend 64)) := by
  rw [deliver_eq_answered, resInt32, h, BitVec.ofInt_toInt]

/-- A 32-bit result delivered sign-extended is the same number in 64 bits (30_encoding.md R64). -/
theorem deliver_of_range {r : Int} (hl : -(2 ^ 31) ≤ r) (hu : r < 2 ^ 31) (s : State) :
    deliver s (resInt32 r) = .next (s.answered (BitVec.ofInt 64 r)) := by
  have hsame : resInt32 r = BitVec.ofInt 64 r := by
    rw [← BitVec.ofInt_toInt (x := resInt32 r), resInt32_toInt, wrap_eq_self (by decide) hl hu]
  rw [deliver_eq_answered, hsame]

theorem deliver_evalPlain {d : Nat} {p : Poly} (h : Poly.wf d p = true) (a : Word) (s : State) :
    deliver s (resInt32 (evalPlain p (opndInt32 a))) =
      .next (s.answered ((hornerWords (lowHalf a) p).signExtend 64)) :=
  deliver_toInt (horner_toInt _ (fitsWords_of_wf h)) s

theorem deliver_evalLut {bits d : Nat} (hbits : 0 < bits ∧ bits < 30) {table : LutTable}
    (h : LutTable.wf bits d table = true) (a : Word) (s : State) :
    deliver s (resInt32 (evalLut bits table (opndInt32 a))) =
      .next (s.answered ((lutWords bits (lowHalf a) table).signExtend 64)) :=
  deliver_toInt (evalLut_toInt hbits _ h) s

theorem exec_qmul30 (a b : Word) (s : State) :
    exec (.qmul30 a b) s = deliver s (resInt32 (qmul30 (opndInt32 a) (opndInt32 b))) := rfl

theorem exec_rcpEvalInstr (t : Tier) (k : Word) (s : State) :
    exec (rcpEvalInstr t k) s = deliver s (resInt32 (rcpEval specRom t (opndInt32 k))) := by
  cases t <;> rfl

theorem exec_sqrtEvalInstr (t : Tier) (k : Word) (s : State) :
    exec (sqrtEvalInstr t k) s = deliver s (resInt32 (sqrtEval specRom t (opndInt32 k))) := by
  cases t <;> rfl

theorem exec_rsqrtEvalInstr (t : Tier) (k : Word) (s : State) :
    exec (rsqrtEvalInstr t k) s = deliver s (resInt32 (rsqrtEval specRom t (opndInt32 k))) := by
  cases t <;> rfl

theorem exec_log2EvalInstr (t : Tier) (k : Word) (s : State) :
    exec (log2EvalInstr t k) s = deliver s (resInt32 (log2Eval specRom t (opndInt32 k))) := by
  cases t <;> rfl

theorem exec_exp2EvalInstr (t : Tier) (k : Word) (s : State) :
    exec (exp2EvalInstr t k) s = deliver s (resInt32 (exp2Eval specRom t (opndInt32 k))) := by
  cases t <;> rfl

theorem exec_usinEvalInstr (t : Tier) (k : Word) (s : State) :
    exec (usinEvalInstr t k) s = deliver s (resInt32 (unitSin specRom t (opndInt32 k))) := by
  cases t <;> rfl

theorem exec_atanEvalInstr (t : Tier) (k : Word) (s : State) :
    exec (atanEvalInstr t k) s = deliver s (resInt32 (atanEval specRom t (opndInt32 k))) := by
  cases t <;> rfl

/-- A unit-sine evaluator answers its datapath, at every tier (41_poly_engine.md R128). -/
theorem exec_usinEvalInstr_words (t : Tier) (k : Word) (s : State) :
    exec (usinEvalInstr t k) s = .next (s.answered ((usinWords (lowHalf k) (usinTable specRom t)).signExtend 64)) := by
  rw [exec_usinEvalInstr]
  exact deliver_toInt (unitSin_toInt t _) s

/-- An arctangent evaluator answers `ATAN_ONE` from 1.0 on and its datapath below, at every tier (41_poly_engine.md
R129). -/
theorem exec_atanEvalInstr_words (t : Tier) (k : Word) (s : State) :
    exec (atanEvalInstr t k) s = .next (s.answered
      (if 0x40000000 ≤ (lowHalf k).toInt then 843314857 else (atanWords t (lowHalf k)).signExtend 64)) := by
  rw [exec_atanEvalInstr, opndInt32_eq_toInt, atanEval_eq, wrap_toInt, one30]
  split
  case isTrue => rfl
  case isFalse => exact deliver_toInt (atanBelowOne_toInt t _) s

/-! ## The obligations of the datapath -/

/-- Settles O20: the sign-extended words are multiplied without overflow, so the low half of the shifted product is the
wrapped one. -/
theorem qmul30IsTheShiftedProduct : Obligations.Qmul30IsTheShiftedProduct := by
  intro a b s
  simp only [extractLsb'_eq_lowHalf]
  rw [lowHalf_shiftedProduct, exec_qmul30, deliver_eq_answered, resInt32, qmul30, ofInt_wrap le_rfl]
  rfl

/-- Settles O21: each evaluator is one Horner chain over a table of words. -/
theorem plainEvaluatorsAreHornerChains : Obligations.PlainEvaluatorsAreHornerChains := by
  intro a s
  rw [extractLsb'_eq_lowHalf]
  have chain {d : Nat} {p : Poly} (h : Poly.wf d p = true) := deliver_evalPlain h a s
  exact ⟨chain (d := 6) (by decide), chain (d := 4) (by decide), chain (d := 4) (by decide),
    chain (d := 3) (by decide), chain (d := 5) (by decide), chain (d := 3) (by decide), chain (d := 5) (by decide),
    chain (d := 5) (by decide), chain (d := 4) (by decide), chain (d := 3) (by decide)⟩

/-- Settles O22: each evaluator is the chain over the row its table is read at. -/
theorem tableEvaluatorsSelectTheirRow : Obligations.TableEvaluatorsSelectTheirRow := by
  intro a s
  rw [extractLsb'_eq_lowHalf]
  exact ⟨deliver_evalLut (d := 4) (by decide) (by decide) a s, deliver_evalLut (d := 3) (by decide) (by decide) a s,
    deliver_evalLut (d := 3) (by decide) (by decide) a s, deliver_evalLut (d := 5) (by decide) (by decide) a s,
    deliver_evalLut (d := 3) (by decide) (by decide) a s⟩

/-- Settles O23: the three tiers of the unit sine. -/
theorem unitSineEvaluators : Obligations.UnitSineEvaluators := by
  intro a s
  rw [extractLsb'_eq_lowHalf]
  exact ⟨exec_usinEvalInstr_words .default a s, exec_usinEvalInstr_words .fast a s,
    exec_usinEvalInstr_words .fastest a s⟩

/-- Settles O24: the three tiers of the arctangent. -/
theorem arctangentEvaluators : Obligations.ArctangentEvaluators := by
  intro a s
  rw [extractLsb'_eq_lowHalf]
  exact ⟨exec_atanEvalInstr_words .default a s, exec_atanEvalInstr_words .fast a s,
    exec_atanEvalInstr_words .fastest a s⟩

/-- Settles O26: the datapath sees a phase through its fold only, and the mirror image has the same fold. -/
theorem unitSineMirrorSymmetry : Obligations.UnitSineMirrorSymmetry := by
  intro t z s
  have hfold : usinWords (lowHalf (0x80000000 - z)) (usinTable specRom t) =
      usinWords (lowHalf z) (usinTable specRom t) := by
    rw [lowHalf_mirror, usinWords, foldWord_mirror, ← usinWords]
  rw [exec_usinEvalInstr_words, exec_usinEvalInstr_words, hfold]

/-! ## The exact points -/

theorem evalLut_zero {bits d : Nat} (hbits : 0 < bits ∧ bits < 30) {table : LutTable}
    (h : LutTable.wf bits d table = true) : evalLut bits table 0 = (table.getD 0 []).getD 0 0 := by
  simpa using evalLut_segmentStart hbits h (j := 0) (by positivity)

theorem evalPlain_zero {d : Nat} {p : Poly} (h : Poly.wf d p = true) : evalPlain p 0 = p.getD 0 0 :=
  horner_zero_eq_getD (fitsWords_of_wf h)

theorem rcpEval_zero : ∀ t : Tier, rcpEval specRom t 0 = one30
  | .default => evalLut_zero (d := 4) (by decide) (by decide)
  | .fast    => evalPlain_zero (d := 6) (by decide)
  | .fastest => evalPlain_zero (d := 4) (by decide)

theorem sqrtEval_zero : ∀ t : Tier, sqrtEval specRom t 0 = one30
  | .default => evalLut_zero (d := 3) (by decide) (by decide)
  | .fast    => evalPlain_zero (d := 4) (by decide)
  | .fastest => evalPlain_zero (d := 3) (by decide)

theorem rsqrtEval_zero : ∀ t : Tier, rsqrtEval specRom t 0 = one30
  | .default => evalLut_zero (d := 3) (by decide) (by decide)
  | .fast    => evalPlain_zero (d := 5) (by decide)
  | .fastest => evalPlain_zero (d := 3) (by decide)

theorem exp2Eval_zero : ∀ t : Tier, exp2Eval specRom t 0 = one30
  | .default => evalPlain_zero (d := 5) (by decide)
  | .fast    => evalPlain_zero (d := 4) (by decide)
  | .fastest => evalPlain_zero (d := 3) (by decide)

theorem log2Eval_zero : ∀ t : Tier, log2Eval specRom t 0 = 0
  | .default => evalLut_zero (d := 5) (by decide) (by decide)
  | .fast    => evalLut_zero (d := 3) (by decide) (by decide)
  | .fastest => evalPlain_zero (d := 5) (by decide)

theorem atanEval_zero (t : Tier) : atanEval specRom t 0 = 0 := by
  rw [atanEval_of_lt specRom t (by decide) (by decide)]
  cases t with
  | default => exact evalLut_zero (d := 5) (by decide) (by decide)
  | fast => exact evalLut_zero (d := 3) (by decide) (by decide)
  | fastest => rw [atanBelowOne, qmul30, zero_mul]; rfl

theorem unitSin_zero (t : Tier) : unitSin specRom t 0 = 0 := unitSin_of_fold_zero _ t (by decide)

theorem unitSin_half_turn (t : Tier) : unitSin specRom t (-(2 ^ 31)) = 0 := unitSin_of_fold_zero _ t (by decide)

theorem unitSin_quarter_turn (t : Tier) : unitSin specRom t one30 = one30 :=
  unitSin_of_square_one t (by decide) (by decide) (by decide) (by decide)

theorem unitSin_minus_quarter_turn (t : Tier) : unitSin specRom t (-one30) = -one30 :=
  unitSin_of_square_one t (by decide) (by decide) (by decide) (by decide)

theorem opndInt32_ofNat {n : Nat} (h : n < 2 ^ 31) : opndInt32 (BitVec.ofNat 64 n) = n := by
  rw [opndInt32, ← BitVec.ofInt_natCast, lowHalf_ofInt, toInt_ofInt_eq_wrap]
  exact wrap_eq_self (by decide) (by omega) (by omega)

/-- A table evaluator answers the first entry of row `j` at the start of segment `j` (41_poly_engine.md R152 (b)). -/
theorem deliver_segmentStart {bits d : Nat} (hbits : 0 < bits ∧ bits < 30) {table : LutTable}
    (h : LutTable.wf bits d table = true) {j : Nat} (hj : j < 2 ^ bits) (s : State) :
    deliver s (resInt32 (evalLut bits table (opndInt32 (BitVec.ofNat 64 (j * 2 ^ (30 - bits)))))) =
      .next (s.answered (BitVec.ofInt 64 ((table.getD j []).getD 0 0))) := by
  have hrow := fitsWords_row h j
  obtain ⟨hl, hu⟩ := horner_range 0 hrow
  rw [horner_zero_eq_getD hrow] at hl hu
  rw [opndInt32_ofNat ((segmentStart_lt hbits.2.le hj).trans (by decide)), evalLut_segmentStart hbits h hj,
    deliver_of_range hl hu]

/-- Below 1.0 the operand of an arctangent evaluator reaches its table or its polynomial. -/
theorem exec_atanEvalInstr_ofNat (t : Tier) {n : Nat} (hn : n < 2 ^ 30) (s : State) :
    exec (atanEvalInstr t (BitVec.ofNat 64 n)) s =
      deliver s (resInt32 (atanBelowOne specRom t (opndInt32 (BitVec.ofNat 64 n)))) := by
  have hk : opndInt32 (BitVec.ofNat 64 n) = n := opndInt32_ofNat (hn.trans (by decide))
  rw [exec_atanEvalInstr, hk, atanEval_of_lt specRom t (by omega) (by rw [one30]; omega)]

/-- Settles O25: at argument 0 a chain is its first coefficient, at argument 1.0 the sum of all. -/
theorem evaluatorsExactPoints : Obligations.EvaluatorsExactPoints := by
  intro s
  refine ⟨fun t => ?tiers, fun j => ?segments8, fun j => ?segments16⟩
  case tiers =>
    have hzero : opndInt32 0 = 0 := rfl
    have hquarter : opndInt32 0x40000000 = one30 := rfl
    have hminus : opndInt32 0xC0000000 = -one30 := rfl
    have hhalf : opndInt32 0x80000000 = -(2 ^ 31) := rfl
    simp only [exec_rcpEvalInstr, exec_sqrtEvalInstr, exec_rsqrtEvalInstr, exec_exp2EvalInstr, exec_log2EvalInstr,
      exec_atanEvalInstr, exec_usinEvalInstr, hzero, hquarter, hminus, hhalf, rcpEval_zero, sqrtEval_zero,
      rsqrtEval_zero, exp2Eval_zero, log2Eval_zero, atanEval_zero, unitSin_zero, unitSin_quarter_turn,
      unitSin_minus_quarter_turn, unitSin_half_turn]
    exact ⟨rfl, rfl, rfl, rfl, rfl, rfl, rfl, rfl, rfl, rfl⟩
  case segments8 =>
    have hstart {d : Nat} {table : LutTable} (h : LutTable.wf 3 d table = true) :=
      deliver_segmentStart (by decide) h j.isLt s
    have hatan (t : Tier) := exec_atanEvalInstr_ofNat t (segmentStart_lt (bits := 3) (by decide) j.isLt) s
    exact ⟨hstart (d := 4) (by decide), hstart (d := 3) (by decide), hstart (d := 5) (by decide),
      hstart (d := 3) (by decide), (hatan .default).trans (hstart (d := 5) (by decide)),
      (hatan .fast).trans (hstart (d := 3) (by decide))⟩
  case segments16 => exact deliver_segmentStart (bits := 4) (d := 3) (by decide) (by decide) j.isLt s

end Sys2Proof.Machine
end

section
/-! The words and the numbers of the kernels: what an instruction of a kernel answers, as a function of the raw values
of its operand words, and the rational floors of the statements as the model's integer shifts (43_kernel_patterns.md
R190 to R193; 30_encoding.md R63, R64). -/

namespace Sys2Proof.Machine

/-! ## Raw values and result words -/

theorem opnd_eq_rawValue (K : Kernel) (x : Word) : opnd K x = rawValue K x := by
  cases K with
  | q32 => rfl
  | q16 => rw [rawValue, extractLsb'_eq_lowHalf]; rfl

theorem res_eq_rawWord (K : Kernel) (r : Int) : res K r = rawWord K r := by cases K <;> rfl

theorem rawValue_q32 (x : Word) : rawValue .q32 x = x.toInt := rfl

theorem rawValue_q16 (x : Word) : rawValue .q16 x = opndInt32 x := (opnd_eq_rawValue .q16 x).symm

/-- The word of the reading of a raw value is the word of the raw value: delivery wraps (30_encoding.md R64). -/
@[simp] theorem rawWord_wrap (K : Kernel) (r : Int) : rawWord K (wrap K.width r) = rawWord K r := by
  rw [← res_eq_rawWord, ← res_eq_rawWord, res_wrap]

@[simp] theorem rawValue_rawWord (K : Kernel) (r : Int) : rawValue K (rawWord K r) = wrap K.width r := by
  rw [← res_eq_rawWord, ← opnd_eq_rawValue, opnd_res]

theorem rawWord_zero (K : Kernel) : rawWord K 0 = 0 := by cases K <;> rfl

theorem rawValue_zero (K : Kernel) : rawValue K 0 = 0 := by cases K <;> rfl

theorem width_pos (K : Kernel) : 0 < K.width := by cases K <;> decide

/-- A raw value of a kernel is not changed by wraparound to the kernel's width. -/
theorem wrap_eq_self_of_range {K : Kernel} {r : Int} (hl : K.minValue ≤ r) (hu : r ≤ K.maxValue) :
    wrap K.width r = r :=
  wrap_eq_self (width_pos K) hl (by rw [Kernel.maxValue] at hu; omega)

theorem rawValue_range (K : Kernel) (x : Word) : K.minValue ≤ rawValue K x ∧ rawValue K x ≤ K.maxValue := by
  rw [← opnd_eq_rawValue]
  exact opnd_range K x

@[simp] theorem wrap_rawValue (K : Kernel) (x : Word) : wrap K.width (rawValue K x) = rawValue K x :=
  wrap_eq_self_of_range (rawValue_range K x).1 (rawValue_range K x).2

theorem rawValue_natAbs_lt (K : Kernel) (x : Word) : (rawValue K x).natAbs < 2 ^ K.width := by
  have h := rawValue_range K x
  cases K <;> simp only [Kernel.minValue, Kernel.maxValue, Kernel.width] at h ⊢ <;> omega

@[simp] theorem wrap_wrap (n : Nat) (v : Int) : wrap n (wrap n v) = wrap n v := by
  rw [← toInt_ofInt_eq_wrap, ← toInt_ofInt_eq_wrap, BitVec.ofInt_toInt]

theorem rawValue_oneWord (K : Kernel) : rawValue K (oneWord K) = K.one := by cases K <;> rfl

/-- A power of two below the sign bit is the raw value of its word. -/
theorem rawValue_two_pow {K : Kernel} {j : Nat} (hj : j ≤ K.width - 2) : rawValue K (rawWord K (2 ^ j)) = 2 ^ j := by
  have hle : (2 : Int) ^ j ≤ 2 ^ (K.width - 2) := pow_le_pow_right₀ (by norm_num) hj
  have hpos : (0 : Int) < 2 ^ j := by positivity
  rw [rawValue_rawWord, wrap_eq_self_of_range]
  all_goals cases K <;> simp only [Kernel.minValue, Kernel.maxValue, Kernel.width] at hle ⊢ <;> omega

/-! ## Floors -/

/-- `floor(v * 2^e)` is `SHR(v, -e)` (00_scope.md R11). -/
theorem floorScaled_eq_shr (v e : Int) : floorScaled v e = shr v (-e) := by
  rw [shr_eq_floor, neg_neg]
  rfl

theorem floor_div_two_pow (v : Int) (n : Nat) : ⌊(v : ℚ) / 2 ^ n⌋ = v / 2 ^ n := by
  have h := Rat.floor_intCast_div_natCast v (2 ^ n)
  push_cast at h
  exact h

theorem ceil_div_two_pow (v : Int) (n : Nat) : ⌈(v : ℚ) / 2 ^ n⌉ = (v + (2 ^ n - 1)) / 2 ^ n := by
  have hpos : (0 : Int) < 2 ^ n := by positivity
  have hneg : (v + (2 ^ n - 1)) / 2 ^ n = -(-v / 2 ^ n) := by
    rw [Int.ediv_eq_iff_of_pos hpos]
    have h1 := Int.mul_ediv_add_emod (-v) (2 ^ n)
    have h2 := Int.emod_nonneg (-v) hpos.ne'
    have h3 := Int.emod_lt_of_pos (-v) hpos
    constructor <;> linarith
  rw [hneg, ← floor_div_two_pow, Int.cast_neg, neg_div, Int.floor_neg, neg_neg]

/-! ## What the instructions of a kernel answer -/

/-- The state after an instruction whose answer is known. -/
theorem exec_of_answerOf {i : Instr} {w : Word} (h : answerOf i = w) (s : State) : exec i s = .next (s.answered w) :=
  h ▸ exec_eq_answered i s

theorem answerOf_addInstr (K : Kernel) (a b : Word) :
    answerOf (addInstr K a b) = rawWord K (add K (rawValue K a) (rawValue K b)) := by
  rw [← opnd_eq_rawValue, ← opnd_eq_rawValue]
  cases K <;> rfl

theorem answerOf_subInstr (K : Kernel) (a b : Word) :
    answerOf (subInstr K a b) = rawWord K (sub K (rawValue K a) (rawValue K b)) := by
  rw [← opnd_eq_rawValue, ← opnd_eq_rawValue]
  cases K <;> rfl

theorem answerOf_mulInstr (K : Kernel) (a b : Word) :
    answerOf (mulInstr K a b) = rawWord K (mul K (rawValue K a) (rawValue K b)) := by
  rw [← opnd_eq_rawValue, ← opnd_eq_rawValue]
  cases K <;> rfl

theorem answerOf_divpreciseInstr (K : Kernel) (a b : Word) :
    answerOf (divpreciseInstr K a b) = rawWord K (divPrecise K (rawValue K a) (rawValue K b)) := by
  rw [← opnd_eq_rawValue, ← opnd_eq_rawValue]
  cases K <;> rfl

theorem answerOf_modInstr (K : Kernel) (a b : Word) :
    answerOf (modInstr K a b) = rawWord K (mod K (rawValue K a) (rawValue K b)) := by
  rw [← opnd_eq_rawValue, ← opnd_eq_rawValue]
  cases K <;> rfl

theorem answerOf_floorInstr (K : Kernel) (a : Word) :
    answerOf (floorInstr K a) = rawWord K (floor K (rawValue K a)) := by
  rw [← opnd_eq_rawValue]
  cases K <;> rfl

theorem answerOf_ceilInstr (K : Kernel) (a : Word) :
    answerOf (ceilInstr K a) = rawWord K (ceil K (rawValue K a)) := by
  rw [← opnd_eq_rawValue]
  cases K <;> rfl

theorem answerOf_roundInstr (K : Kernel) (a : Word) :
    answerOf (roundInstr K a) = rawWord K (round K (rawValue K a)) := by
  rw [← opnd_eq_rawValue]
  cases K <;> rfl

theorem answerOf_fractInstr (K : Kernel) (a : Word) :
    answerOf (fractInstr K a) = rawWord K (fract K (rawValue K a)) := by
  rw [← opnd_eq_rawValue]
  cases K <;> rfl

theorem answerOf_floortointInstr (K : Kernel) (a : Word) :
    answerOf (floortointInstr K a) = resInt32 (floorToInt K (rawValue K a)) := by
  rw [← opnd_eq_rawValue]
  cases K <;> rfl

theorem answerOf_ceiltointInstr (K : Kernel) (a : Word) :
    answerOf (ceiltointInstr K a) = resInt32 (ceilToInt K (rawValue K a)) := by
  rw [← opnd_eq_rawValue]
  cases K <;> rfl

theorem answerOf_roundtointInstr (K : Kernel) (a : Word) :
    answerOf (roundtointInstr K a) = resInt32 (roundToInt K (rawValue K a)) := by
  rw [← opnd_eq_rawValue]
  cases K <;> rfl

theorem answerOf_lerpInstr (K : Kernel) (a b t : Word) :
    answerOf (lerpInstr K a b t) = rawWord K (lerp K (rawValue K a) (rawValue K b) (rawValue K t)) := by
  rw [← opnd_eq_rawValue, ← opnd_eq_rawValue, ← opnd_eq_rawValue]
  cases K <;> rfl

theorem answerOf_fromfpInstr (K : Kernel) (fmt : FloatFormat) (a : Word) :
    answerOf (fromfpInstr K fmt a) = rawWord K (fromFP K fmt (opndFloat fmt a)) := by
  cases K <;> cases fmt <;> rfl

theorem answerOf_tofpInstr (K : Kernel) (fmt : FloatFormat) (a : Word) :
    answerOf (tofpInstr K fmt a) = resBits (toFP K fmt (rawValue K a)) := by
  rw [← opnd_eq_rawValue]
  cases K <;> cases fmt <;> rfl

theorem answerOf_divInstr (K : Kernel) (t : Tier) (a b : Word) :
    answerOf (divInstr K t a b) = rawWord K (divApprox specParams K t (rawValue K a) (rawValue K b)) := by
  rw [← opnd_eq_rawValue, ← opnd_eq_rawValue]
  cases K <;> cases t <;> rfl

theorem answerOf_rcpInstr (K : Kernel) (t : Tier) (a : Word) :
    answerOf (rcpInstr K t a) = rawWord K (rcp specParams K t (rawValue K a)) := by
  rw [← opnd_eq_rawValue]
  cases K <;> cases t <;> rfl

theorem answerOf_sqrtInstr (K : Kernel) (t : Tier) (a : Word) :
    answerOf (sqrtInstr K t a) = rawWord K (sqrt specParams K t (rawValue K a)) := by
  rw [← opnd_eq_rawValue]
  cases K <;> cases t <;> rfl

theorem answerOf_rsqrtInstr (K : Kernel) (t : Tier) (a : Word) :
    answerOf (rsqrtInstr K t a) = rawWord K (rsqrt specParams K t (rawValue K a)) := by
  rw [← opnd_eq_rawValue]
  cases K <;> cases t <;> rfl

theorem answerOf_expInstr (K : Kernel) (t : Tier) (a : Word) :
    answerOf (expInstr K t a) = rawWord K (exp specParams K t (rawValue K a)) := by
  rw [← opnd_eq_rawValue]
  cases K <;> cases t <;> rfl

theorem answerOf_exp2Instr (K : Kernel) (t : Tier) (a : Word) :
    answerOf (exp2Instr K t a) = rawWord K (exp2 specParams K t (rawValue K a)) := by
  rw [← opnd_eq_rawValue]
  cases K <;> cases t <;> rfl

theorem answerOf_logInstr (K : Kernel) (t : Tier) (a : Word) :
    answerOf (logInstr K t a) = rawWord K (log specParams K t (rawValue K a)) := by
  rw [← opnd_eq_rawValue]
  cases K <;> cases t <;> rfl

theorem answerOf_log2Instr (K : Kernel) (t : Tier) (a : Word) :
    answerOf (log2Instr K t a) = rawWord K (log2 specParams K t (rawValue K a)) := by
  rw [← opnd_eq_rawValue]
  cases K <;> cases t <;> rfl

theorem answerOf_powInstr (K : Kernel) (t : Tier) (a b : Word) :
    answerOf (powInstr K t a b) = rawWord K (pow specParams K t (rawValue K a) (rawValue K b)) := by
  rw [← opnd_eq_rawValue, ← opnd_eq_rawValue]
  cases K <;> cases t <;> rfl

theorem answerOf_sinInstr (K : Kernel) (t : Tier) (a : Word) :
    answerOf (sinInstr K t a) = rawWord K (sin specParams K t (rawValue K a)) := by
  rw [← opnd_eq_rawValue]
  cases K <;> cases t <;> rfl

theorem answerOf_cosInstr (K : Kernel) (t : Tier) (a : Word) :
    answerOf (cosInstr K t a) = rawWord K (cos specParams K t (rawValue K a)) := by
  rw [← opnd_eq_rawValue]
  cases K <;> cases t <;> rfl

theorem answerOf_tanInstr (K : Kernel) (t : Tier) (a : Word) :
    answerOf (tanInstr K t a) = rawWord K (tan specParams K t (rawValue K a)) := by
  rw [← opnd_eq_rawValue]
  cases K <;> cases t <;> rfl

theorem answerOf_asinInstr (K : Kernel) (t : Tier) (a : Word) :
    answerOf (asinInstr K t a) = rawWord K (asin specParams K t (rawValue K a)) := by
  rw [← opnd_eq_rawValue]
  cases K <;> cases t <;> rfl

theorem answerOf_acosInstr (K : Kernel) (t : Tier) (a : Word) :
    answerOf (acosInstr K t a) = rawWord K (acos specParams K t (rawValue K a)) := by
  rw [← opnd_eq_rawValue]
  cases K <;> cases t <;> rfl

theorem answerOf_atanInstr (K : Kernel) (t : Tier) (a : Word) :
    answerOf (atanInstr K t a) = rawWord K (atan specParams K t (rawValue K a)) := by
  rw [← opnd_eq_rawValue]
  cases K <;> cases t <;> rfl

theorem answerOf_atan2Instr (K : Kernel) (t : Tier) (a b : Word) :
    answerOf (atan2Instr K t a b) = rawWord K (atan2 specParams K t (rawValue K a) (rawValue K b)) := by
  rw [← opnd_eq_rawValue, ← opnd_eq_rawValue]
  cases K <;> cases t <;> rfl

end Sys2Proof.Machine
end

section
/-! What the evaluators answer when a kernel instruction asks them: every evaluator result is a 32-bit signed word, so
the answer of the opcode, read as a number, is the value the kernel works with (41_poly_engine.md R120, R127 to R129),
and the mantissa word of a magnitude is the normalizer's mantissa fraction (40_bit_primitives.md R108). -/

namespace Sys2Proof.Machine

/-! ## Evaluator results are 32-bit words -/

/-- A value of a 32-bit signed word. -/
def InWord32 (v : Int) : Prop := -(2 ^ 31) ≤ v ∧ v < 2 ^ 31

theorem wrap_of_inWord32 {v : Int} (h : InWord32 v) : wrap 32 v = v := wrap_eq_self (by decide) h.1 h.2

theorem evalPlain_inWord32 {d : Nat} {p : Poly} (h : Poly.wf d p = true) (k : Int) : InWord32 (evalPlain p k) :=
  horner_range k (fitsWords_of_wf h)

theorem evalLut_inWord32 {bits d : Nat} {table : LutTable} (h : LutTable.wf bits d table = true) (k : Int) :
    InWord32 (evalLut bits table k) :=
  horner_range _ (fitsWords_row h _)

theorem rcpEval_inWord32 (t : Tier) (k : Int) : InWord32 (rcpEval specRom t k) :=
  match t with
  | .default => evalLut_inWord32 (bits := 3) (d := 4) (by decide) k
  | .fast    => evalPlain_inWord32 (d := 6) (by decide) k
  | .fastest => evalPlain_inWord32 (d := 4) (by decide) k

theorem sqrtEval_inWord32 (t : Tier) (k : Int) : InWord32 (sqrtEval specRom t k) :=
  match t with
  | .default => evalLut_inWord32 (bits := 3) (d := 3) (by decide) k
  | .fast    => evalPlain_inWord32 (d := 4) (by decide) k
  | .fastest => evalPlain_inWord32 (d := 3) (by decide) k

theorem rsqrtEval_inWord32 (t : Tier) (k : Int) : InWord32 (rsqrtEval specRom t k) :=
  match t with
  | .default => evalLut_inWord32 (bits := 4) (d := 3) (by decide) k
  | .fast    => evalPlain_inWord32 (d := 5) (by decide) k
  | .fastest => evalPlain_inWord32 (d := 3) (by decide) k

theorem log2Eval_inWord32 (t : Tier) (k : Int) : InWord32 (log2Eval specRom t k) :=
  match t with
  | .default => evalLut_inWord32 (bits := 3) (d := 5) (by decide) k
  | .fast    => evalLut_inWord32 (bits := 3) (d := 3) (by decide) k
  | .fastest => evalPlain_inWord32 (d := 5) (by decide) k

theorem exp2Eval_inWord32 (t : Tier) (k : Int) : InWord32 (exp2Eval specRom t k) :=
  match t with
  | .default => evalPlain_inWord32 (d := 5) (by decide) k
  | .fast    => evalPlain_inWord32 (d := 4) (by decide) k
  | .fastest => evalPlain_inWord32 (d := 3) (by decide) k

theorem unitSin_inWord32 (t : Tier) (z : Int) : InWord32 (unitSin specRom t z) := qmul30_range _ _

theorem atanEval_inWord32 (t : Tier) (k : Int) : InWord32 (atanEval specRom t k) := by
  rw [atanEval_eq]
  split
  case isTrue => exact ⟨by decide, by decide⟩
  case isFalse =>
    cases t with
    | default => exact evalLut_inWord32 (bits := 3) (d := 5) (by decide) _
    | fast => exact evalLut_inWord32 (bits := 3) (d := 3) (by decide) _
    | fastest => exact qmul30_range _ _

/-! ## The answers of the evaluator opcodes -/

/-- An evaluator opcode that delivers a 32-bit word answers that word, read as a number. -/
theorem answerOf_toInt_of_deliver {i : Instr} {r : Int} (h : ∀ s : State, exec i s = deliver s (resInt32 r))
    (hr : InWord32 r) : (answerOf i).toInt = r := by
  have hi : answerOf i = resInt32 r := by
    simp [answerOf, h, deliver_eq_answered, State.answered]
  rw [hi, resInt32_toInt, wrap_of_inWord32 hr]

theorem answerOf_rcpEvalInstr (t : Tier) (k : Word) :
    (answerOf (rcpEvalInstr t k)).toInt = rcpEval specRom t (opndInt32 k) :=
  answerOf_toInt_of_deliver (exec_rcpEvalInstr t k) (rcpEval_inWord32 t _)

theorem answerOf_sqrtEvalInstr (t : Tier) (k : Word) :
    (answerOf (sqrtEvalInstr t k)).toInt = sqrtEval specRom t (opndInt32 k) :=
  answerOf_toInt_of_deliver (exec_sqrtEvalInstr t k) (sqrtEval_inWord32 t _)

theorem answerOf_rsqrtEvalInstr (t : Tier) (k : Word) :
    (answerOf (rsqrtEvalInstr t k)).toInt = rsqrtEval specRom t (opndInt32 k) :=
  answerOf_toInt_of_deliver (exec_rsqrtEvalInstr t k) (rsqrtEval_inWord32 t _)

theorem answerOf_log2EvalInstr (t : Tier) (k : Word) :
    (answerOf (log2EvalInstr t k)).toInt = log2Eval specRom t (opndInt32 k) :=
  answerOf_toInt_of_deliver (exec_log2EvalInstr t k) (log2Eval_inWord32 t _)

theorem answerOf_exp2EvalInstr (t : Tier) (k : Word) :
    (answerOf (exp2EvalInstr t k)).toInt = exp2Eval specRom t (opndInt32 k) :=
  answerOf_toInt_of_deliver (exec_exp2EvalInstr t k) (exp2Eval_inWord32 t _)

theorem answerOf_usinEvalInstr (t : Tier) (k : Word) :
    (answerOf (usinEvalInstr t k)).toInt = unitSin specRom t (opndInt32 k) :=
  answerOf_toInt_of_deliver (exec_usinEvalInstr t k) (unitSin_inWord32 t _)

theorem answerOf_atanEvalInstr (t : Tier) (k : Word) :
    (answerOf (atanEvalInstr t k)).toInt = atanEval specRom t (opndInt32 k) :=
  answerOf_toInt_of_deliver (exec_atanEvalInstr t k) (atanEval_inWord32 t _)

/-- The operand word of an integer, read as a Q2.30 word, is the integer reduced to 32 bits. -/
theorem opndInt32_ofInt (v : Int) : opndInt32 (BitVec.ofInt 64 v) = wrap 32 v := by
  rw [opndInt32, lowHalf_ofInt, toInt_ofInt_eq_wrap]

/-! ## The mantissa -/

/-- The mantissa of a magnitude, Q2.30, lies in `[1.0, 2.0)`: its fraction is what is above 1.0. -/
theorem mantissaFrac_spec {m : Nat} (hm : m ≠ 0) :
    mantissaFrac m + 2 ^ 30 = m * 2 ^ 30 / 2 ^ m.log2 ∧ mantissaFrac m < 2 ^ 30 := by
  have hlow : 2 ^ m.log2 ≤ m := Nat.log2_self_le hm
  have hhigh : m < 2 ^ m.log2 * 2 := Nat.lt_log2_self
  have hl : 2 ^ 30 ≤ m * 2 ^ 30 / 2 ^ m.log2 := by
    rw [Nat.le_div_iff_mul_le (by positivity)]
    omega
  have hu : m * 2 ^ 30 / 2 ^ m.log2 < 2 ^ 31 := by
    rw [Nat.div_lt_iff_lt_mul (by positivity)]
    omega
  have hsum : mantissaFrac m + 2 ^ 30 = m * 2 ^ 30 / 2 ^ m.log2 := Nat.sub_add_cancel hl
  omega

/-- The operand word of the mantissa fraction is read as the normalizer's fraction (40_bit_primitives.md R108). -/
theorem opndInt32_mantissaWord {w m : Nat} (hm : m ≠ 0) (hw : m < 2 ^ w) :
    opndInt32 (mantissaWord m) = (normalize w m).k := by
  obtain ⟨hsum, hlt⟩ := mantissaFrac_spec hm
  have hk : (normalize w m).k = (m : Int) * 2 ^ 30 / 2 ^ m.log2 - 2 ^ 30 :=
    normalize_k (by omega) (by exact_mod_cast hw)
  have hcast : ((mantissaFrac m : Int) + 2 ^ 30) = (m : Int) * 2 ^ 30 / 2 ^ m.log2 := by exact_mod_cast hsum
  rw [hk, ← hcast, add_sub_cancel_right]
  exact opndInt32_ofNat (hlt.trans (by decide))

/-- The exponent the kernel takes from the normalizer is the exponent of the value (40_bit_primitives.md R108). -/
theorem normalize_exp (K : Kernel) {m : Nat} (hm : m ≠ 0) (hw : m < 2 ^ K.width) :
    (normalize K.width m).msb - K.frac = valueExp K m := by
  rw [normalize_msb (by omega) (by exact_mod_cast hw), Int.toNat_natCast, valueExp]

/-- A power of two has its exponent and the mantissa fraction 0. -/
theorem normalize_two_pow {w j : Nat} (hj : j < w) :
    (normalize w (2 ^ j)).msb = j ∧ (normalize w (2 ^ j)).k = 0 := by
  have hpos : (0 : Int) < 2 ^ j := by positivity
  have hlt : (2 : Int) ^ j < 2 ^ w := pow_lt_pow_right₀ (by norm_num) hj
  have hlog : ((2 : Int) ^ j).toNat.log2 = j := by
    rw [show (2 : Int) ^ j = ((2 ^ j : Nat) : Int) by push_cast; rfl, Int.toNat_natCast, Nat.log2_two_pow]
  rw [normalize_msb hpos hlt, normalize_k hpos hlt, hlog, Int.mul_ediv_cancel_left _ hpos.ne', sub_self]
  exact ⟨rfl, rfl⟩

end Sys2Proof.Machine
end

section
/-! Proofs of the statements about the arithmetic of the kernels: wraparound, the exact product, the exact quotient
and the division by the reciprocal (43_kernel_patterns.md R194, R195, R199, R216, R219 to R222). -/

namespace Sys2Proof.Machine

/-! ## Wraparound is modular -/

theorem wrap_eq_wrap_iff {n : Nat} {u v : Int} : wrap n u = wrap n v ↔ (2 ^ n : Int) ∣ u - v := by
  have h := Int.bmod_eq_bmod_iff_bmod_sub_eq_zero (m := u) (k := v) (n := 2 ^ n)
  rw [← Int.dvd_iff_bmod_eq_zero] at h
  exact_mod_cast h

theorem dvd_wrap_sub (n : Nat) (v : Int) : (2 ^ n : Int) ∣ wrap n v - v := wrap_eq_wrap_iff.1 (wrap_wrap n v)

/-! ## The exact product -/

theorem unsigned_range (n : Nat) (v : Int) : 0 ≤ unsigned n v ∧ unsigned n v < 2 ^ n :=
  ⟨Int.emod_nonneg _ (by positivity), Int.emod_lt_of_pos _ (by positivity)⟩

/-- The partial products of the Q32.32 kernel add up to the exact product over `2^32` (43_kernel_patterns.md R194). -/
theorem partial_products (a b : Int) :
    logicalShiftRight (unsigned 32 a * unsigned 32 b) 32 + shr a 32 * b + unsigned 32 a * shr b 32 =
      shr (a * b) 32 := by
  obtain ⟨ha0, ha1⟩ := unsigned_range 32 a
  obtain ⟨hb0, hb1⟩ := unsigned_range 32 b
  have hlow : logicalShiftRight (unsigned 32 a * unsigned 32 b) 32 = unsigned 32 a * unsigned 32 b / 2 ^ 32 := by
    have h0 : 0 ≤ unsigned 32 a * unsigned 32 b := mul_nonneg ha0 hb0
    have h1 : unsigned 32 a * unsigned 32 b < 2 ^ 64 := by nlinarith
    have hself : unsigned 64 (unsigned 32 a * unsigned 32 b) = unsigned 32 a * unsigned 32 b :=
      Int.emod_eq_of_lt h0 h1
    rw [logicalShiftRight_eq, hself]
    exact Int.emod_eq_of_lt (Int.ediv_nonneg h0 (by decide)) ((Int.ediv_le_self _ h0).trans_lt h1)
  have hasplit : a = shr a 32 * 2 ^ 32 + unsigned 32 a := (Int.ediv_mul_add_emod a _).symm
  have hbsplit : b = shr b 32 * 2 ^ 32 + unsigned 32 b := (Int.ediv_mul_add_emod b _).symm
  have hprod : a * b = unsigned 32 a * unsigned 32 b + (shr a 32 * b + unsigned 32 a * shr b 32) * 2 ^ 32 := by
    linear_combination b * hasplit + unsigned 32 a * hbsplit
  have hshr : shr (a * b) 32 = a * b / 2 ^ 32 := rfl
  rw [hlow, hshr, hprod, Int.add_mul_ediv_right _ _ (by decide), add_assoc]

/-- `mul` of a kernel is the exact product over `2^F`, floored and wrapped (43_kernel_patterns.md R194). -/
theorem mul_eq (K : Kernel) (a b : Int) : mul K a b = wrap K.width (a * b / 2 ^ K.frac) := by
  cases K with
  | q32 => exact congrArg (wrap 64) (partial_products a b)
  | q16 => rfl

/-! ## The exact quotient -/

theorem truncRat_of_nonneg {q : ℚ} (h : 0 ≤ q) : truncRat q = ⌊q⌋ := if_pos h

theorem truncRat_neg (q : ℚ) : truncRat (-q) = -truncRat q := by
  rcases lt_trichotomy q 0 with h | rfl | h
  · rw [truncRat_of_nonneg (by linarith), truncRat, if_neg (by linarith), Int.floor_neg]
  · rfl
  · rw [truncRat_of_nonneg h.le, truncRat, if_neg (by linarith), Int.ceil_neg]

/-- Truncation of a rational quotient is the truncating division (43_kernel_patterns.md R193 (e)). -/
theorem truncRat_div (a b : Int) : truncRat ((a : ℚ) / b) = Int.tdiv a b := by
  have hnat (m n : Nat) : truncRat ((m : ℚ) / n) = Int.tdiv m n := by
    rw [truncRat_of_nonneg (by positivity), Rat.floor_natCast_div_natCast, Int.tdiv_eq_ediv_of_nonneg (by positivity)]
  obtain ⟨m, rfl | rfl⟩ := a.eq_nat_or_neg <;> obtain ⟨n, rfl | rfl⟩ := b.eq_nat_or_neg <;>
    simp [neg_div, div_neg, truncRat_neg, hnat]

/-- The signed quotient of the magnitudes is the truncating division. -/
theorem signed_quotient (a b c : Int) (hc : 0 ≤ c) :
    (if (a < 0) ≠ (b < 0) then -((a.natAbs : Int) * c / b.natAbs) else (a.natAbs : Int) * c / b.natAbs) =
      Int.tdiv (a * c) b := by
  have hpos (x y : Int) (hx : 0 ≤ x) : Int.tdiv (x * c) y = x * c / y :=
    Int.tdiv_eq_ediv_of_nonneg (mul_nonneg hx hc)
  rw [Int.natCast_natAbs, Int.natCast_natAbs]
  rcases lt_or_ge a 0 with ha | ha <;> rcases lt_or_ge b 0 with hb | hb
  · have hneg : Int.tdiv (a * c) b = Int.tdiv (-a * c) (-b) := by rw [neg_mul, Int.neg_tdiv_neg]
    rw [if_neg (by simp [ha, hb]), abs_of_neg ha, abs_of_neg hb, hneg, hpos _ _ (by omega)]
  · have hneg : Int.tdiv (a * c) b = -Int.tdiv (-a * c) b := by rw [neg_mul, Int.neg_tdiv, neg_neg]
    rw [if_pos (by simp [ha, hb]), abs_of_neg ha, abs_of_nonneg hb, hneg, hpos _ _ (by omega)]
  · have hneg : Int.tdiv (a * c) b = -Int.tdiv (a * c) (-b) := by rw [Int.tdiv_neg, neg_neg]
    rw [if_pos (by simp [ha, hb]), abs_of_nonneg ha, abs_of_neg hb, hneg, hpos _ _ ha]
  · rw [if_neg (by simp [not_lt.2 ha, not_lt.2 hb]), abs_of_nonneg ha, abs_of_nonneg hb, hpos _ _ ha]

theorem frac_add_frac (K : Kernel) : K.frac + K.frac = K.width := by cases K <;> rfl

/-- The high-word test of the divider finds the quotients of `2^W` and more (43_kernel_patterns.md R195). -/
theorem quotient_overflow_iff (K : Kernel) (a : Int) {b : Int} (hb : b ≠ 0) :
    (b.natAbs : Int) ≤ shr a.natAbs (K.width - K.frac) ↔ (2 : ℚ) ^ K.width ≤ |(a : ℚ) * 2 ^ K.frac / b| := by
  have hshift : (K.width : Int) - K.frac = (K.frac : Nat) := by rw [← frac_add_frac]; push_cast; ring
  have hbpos : (0 : ℚ) < |(b : ℚ)| := abs_pos.2 (by exact_mod_cast hb)
  have hpow : (0 : ℚ) < 2 ^ K.frac := by positivity
  have hcast : (b.natAbs : Int) * 2 ^ K.frac ≤ a.natAbs ↔ |(b : ℚ)| * 2 ^ K.frac ≤ |(a : ℚ)| := by
    rw [Int.natCast_natAbs, Int.natCast_natAbs]
    exact_mod_cast Iff.rfl
  rw [hshift, shr_ofNat, Int.le_ediv_iff_mul_le (by positivity), hcast, abs_div, abs_mul, abs_of_pos hpow,
    le_div_iff₀ hbpos, ← frac_add_frac, pow_add, mul_right_comm, mul_comm (2 ^ K.frac : ℚ) |(b : ℚ)|,
    mul_le_mul_iff_left₀ hpow]

/-- `divprecise` of a kernel, sentinel by sentinel (43_kernel_patterns.md R195). -/
theorem divPrecise_eq (K : Kernel) (a b : Int) : divPrecise K a b =
    if b = 0 ∨ b = K.minValue then 0
    else if (2 : ℚ) ^ K.width ≤ |(a : ℚ) * 2 ^ K.frac / b| then K.maxValue
    else wrap K.width (truncRat ((a : ℚ) * 2 ^ K.frac / b)) := by
  have hquot : (a : ℚ) * 2 ^ K.frac / b = ((a * 2 ^ K.frac : Int) : ℚ) / b := by push_cast; rfl
  unfold divPrecise
  split
  case isTrue => rfl
  case isFalse h =>
    simp only [quotient_overflow_iff K a (not_or.1 h).1, signed_quotient a b (2 ^ K.frac) (by positivity)]
    rw [hquot, truncRat_div]

/-- Where the quotient wraps, what is wrapped off it is a multiple of `2^W` (43_kernel_patterns.md R216). -/
theorem mod_eq (K : Kernel) (a b : Int) : mod K a b = if b = 0 then 0 else wrap K.width (Int.tmod a b) := by
  unfold mod
  split
  case isTrue => rfl
  case isFalse =>
    have hdiff : a - wrap K.width (Int.tdiv a b) * b - Int.tmod a b =
        (wrap K.width (Int.tdiv a b) - Int.tdiv a b) * -b := by rw [Int.tmod_def]; ring
    exact wrap_eq_wrap_iff.2 (hdiff ▸ (dvd_wrap_sub K.width (Int.tdiv a b)).mul_right (-b))

/-! ## Division by the reciprocal -/

/-- A left shift before a right shift takes its bits off it. -/
theorem shr_mul_two_pow (v : Int) (n : Nat) (e : Int) : shr (v * 2 ^ n) (n + e) = shr v e := by
  rw [shr_eq_floor, shr_eq_floor, neg_add, zpow_add₀ (by norm_num), zpow_neg, zpow_natCast]
  congr 1
  push_cast
  field_simp

/-- `div` of a divisor 0 or `MinValue` (43_kernel_patterns.md R199). -/
theorem divApprox_of_sentinel (P : Params) {K : Kernel} (t : Tier) (a : Int) {b : Int} (h : b = 0 ∨ b = K.minValue) :
    divApprox P K t a b = 0 := if_pos h

/-- `div` of a divisor that hits no sentinel (43_kernel_patterns.md R199). -/
theorem divApprox_of_ne (P : Params) {K : Kernel} (t : Tier) (a : Int) {b : Int} (h0 : b ≠ 0) (hmin : b ≠ K.minValue)
    (hw : b.natAbs < 2 ^ K.width) :
    let r := rcpEval P.rom t (normalize K.width b.natAbs).k
    divApprox P K t a b = wrap K.width (shr ((if b < 0 then -a else a) * r) (30 + valueExp K b.natAbs)) := by
  have hsign : (if b < 0 then -1 else 1) * a = if b < 0 then -a else a := by split <;> ring
  simp only [divApprox, h0, hmin, or_self, if_false, normalize_exp K (Int.natAbs_ne_zero.2 h0) hw, hsign]

/-! ## The obligations of the arithmetic -/

theorem ofInt_toInt_sub_toInt {n : Nat} (x y : BitVec n) : BitVec.ofInt n (x.toInt - y.toInt) = x - y := by
  rw [sub_eq_add_neg, BitVec.ofInt_add, BitVec.ofInt_neg, BitVec.ofInt_toInt, BitVec.ofInt_toInt,
    BitVec.sub_eq_add_neg]

/-- Settles O27: reduced to its width, the sum or difference of the signed readings is that of the words. -/
theorem addAndSubWrap : Obligations.AddAndSubWrap := by
  intro a b s
  have hadd (K : Kernel) := exec_of_answerOf (answerOf_addInstr K a b) s
  have hsub (K : Kernel) := exec_of_answerOf (answerOf_subInstr K a b) s
  simp only [add, sub, rawWord_wrap] at hadd hsub
  refine ⟨(hadd .q32).trans ?_, (hsub .q32).trans ?_, (hadd .q16).trans ?_, (hsub .q16).trans ?_⟩ <;>
    simp only [rawWord, rawValue, BitVec.ofInt_add, BitVec.ofInt_toInt, ofInt_toInt_sub_toInt]

/-- Settles O28: `mul_eq`, and the floor of the statement. -/
theorem mulIsTheFlooredProduct : Obligations.MulIsTheFlooredProduct := by
  intro K a b s
  rw [exec_of_answerOf (answerOf_mulInstr K a b), mul_eq, rawWord_wrap, floor_div_two_pow]

/-- Settles O29: `divPrecise_eq`, case by case. -/
theorem divPreciseTruncates : Obligations.DivPreciseTruncates := by
  intro K a b s
  rw [exec_of_answerOf (answerOf_divpreciseInstr K a b), divPrecise_eq, apply_ite (rawWord K), apply_ite (rawWord K),
    rawWord_wrap, rawWord_zero]
  rfl

/-- Settles O30: `mod_eq`; delivery drops the wrap. -/
theorem modIsTheTruncatedRemainder : Obligations.ModIsTheTruncatedRemainder := by
  intro K a b s
  rw [exec_of_answerOf (answerOf_modInstr K a b), mod_eq, apply_ite (rawWord K), rawWord_wrap, rawWord_zero]

/-- Settles O31: off the sentinels, the normalizer gives the mantissa word and the exponent of the magnitude. -/
theorem divMultipliesByTheReciprocal : Obligations.DivMultipliesByTheReciprocal := by
  intro K t a b s
  refine exec_of_answerOf ?_ s
  rw [answerOf_divInstr]
  have hlt := rawValue_natAbs_lt K b
  generalize rawValue K b = y at hlt ⊢
  dsimp only
  split
  case isTrue h => rw [divApprox_of_sentinel _ t _ h, rawWord_zero]
  case isFalse h =>
    obtain ⟨h0, hmin⟩ := not_or.1 h
    rw [divApprox_of_ne _ t _ h0 hmin hlt, rawWord_wrap, answerOf_rcpEvalInstr,
      opndInt32_mantissaWord (Int.natAbs_ne_zero.2 h0) hlt, floorScaled_eq_shr, neg_neg]
    rfl

/-- A power of two is no sentinel of the division. -/
theorem two_pow_ne_sentinel (K : Kernel) (j : Nat) : (2 : Int) ^ j ≠ 0 ∧ (2 : Int) ^ j ≠ K.minValue := by
  have hpos : (0 : Int) < 2 ^ j := by positivity
  have hneg : K.minValue < 0 := by cases K <;> decide
  omega

/-- Settles O32: the mantissa fraction is 0, where every Reciprocal evaluator gives 1.0. -/
theorem divByPowerOfTwoIsExact : Obligations.DivByPowerOfTwoIsExact := by
  intro K t a j s hj
  refine exec_of_answerOf ?_ s
  have hlt : j < K.width := by have := width_pos K; omega
  have habs : ((2 : Int) ^ j).natAbs = 2 ^ j := by rw [Int.natAbs_pow]; rfl
  obtain ⟨h0, hmin⟩ := two_pow_ne_sentinel K j
  have hfrac : (normalize K.width ((2 ^ j : Nat) : Int)).k = 0 := by
    push_cast
    exact (normalize_two_pow hlt).2
  have hone : rcpEval specParams.rom t 0 = 2 ^ 30 := rcpEval_zero t
  have hshift (e : Int) : shr (rawValue K a * 2 ^ 30) (30 + e) = shr (rawValue K a) e := shr_mul_two_pow _ 30 e
  have hw : ((2 : Int) ^ j).natAbs < 2 ^ K.width := habs ▸ Nat.pow_lt_pow_right (by decide) hlt
  rw [answerOf_divInstr, rawValue_two_pow hj, divApprox_of_ne _ t _ h0 hmin hw, rawWord_wrap, habs, hfrac, hone,
    if_neg (by simp), hshift, valueExp, Nat.log2_two_pow, floorScaled_eq_shr, neg_sub]

theorem minRaw_toInt {n : Nat} (x y : BitVec n) : minRaw x.toInt y.toInt = (if x.slt y then x else y).toInt := by
  simp only [minRaw, BitVec.slt_iff_toInt_lt, apply_ite BitVec.toInt]

theorem maxRaw_toInt {n : Nat} (x y : BitVec n) : maxRaw x.toInt y.toInt = (if y.slt x then x else y).toInt := by
  simp only [maxRaw, BitVec.slt_iff_toInt_lt, apply_ite BitVec.toInt]

theorem clampRaw_toInt {n : Nat} (x lo hi : BitVec n) :
    clampRaw x.toInt lo.toInt hi.toInt = (if hi.slt x then hi else if x.slt lo then lo else x).toInt := by
  simp only [clampRaw, BitVec.slt_iff_toInt_lt, apply_ite BitVec.toInt]

/-- A Q32.32 result that is a word read as a number is delivered as that word. -/
theorem deliver_q32_toInt {r : Int} {w : Word} (h : r = w.toInt) (s : State) :
    deliver s (res .q32 r) = .next (s.answered w) := by
  rw [deliver_eq_answered, res_q32, h, BitVec.ofInt_toInt]

/-- Settles O35: signed comparison of words is comparison of their signed readings. -/
theorem minMaxClampSelectAnOperand : Obligations.MinMaxClampSelectAnOperand := by
  intro a b c s
  simp only [extractLsb'_eq_lowHalf]
  exact ⟨deliver_q32_toInt (minRaw_toInt a b) s, deliver_q32_toInt (maxRaw_toInt a b) s,
    deliver_q32_toInt (clampRaw_toInt a b c) s, deliver_toInt (minRaw_toInt (lowHalf a) (lowHalf b)) s,
    deliver_toInt (maxRaw_toInt (lowHalf a) (lowHalf b)) s,
    deliver_toInt (clampRaw_toInt (lowHalf a) (lowHalf b) (lowHalf c)) s⟩

theorem exec_fromintQ32 (a : Word) (s : State) :
    exec (.fromintQ32 a) s = deliver s (res .q32 (wrap 64 ((lowHalf a).toInt * 2 ^ 32))) := rfl

theorem exec_fromintQ16 (a : Word) (s : State) :
    exec (.fromintQ16 a) s = deliver s (res .q16 (wrap 32 ((lowHalf a).toInt * 2 ^ 16))) := rfl

/-- Settles O38: a multiplication by `2^F` on the bits of the kernel's width. -/
theorem fromIntShiftsUp : Obligations.FromIntShiftsUp := by
  intro a s
  rw [extractLsb'_eq_lowHalf]
  constructor
  · rw [exec_fromintQ32, deliver_eq_answered, res_q32, ofInt_wrap le_rfl, ofInt_mul_two_pow, BitVec.signExtend]
  · rw [exec_fromintQ16, deliver_eq_answered, res_q16, resInt32, ofInt_wrap le_rfl, ofInt_mul_two_pow,
      BitVec.ofInt_toInt]

theorem mul_one_eq (K : Kernel) (a : Int) : mul K a K.one = wrap K.width a := by
  rw [mul_eq, Kernel.one, Int.mul_ediv_cancel _ (by positivity)]

theorem wrap_zero (n : Nat) : wrap n 0 = 0 := Int.zero_bmod

theorem mul_zero_eq (K : Kernel) (a : Int) : mul K a 0 = 0 := by
  rw [mul_eq, mul_zero, Int.zero_ediv, wrap_zero]

/-- A product is reduced to the width already. -/
theorem wrap_mul (K : Kernel) (a b : Int) : wrap K.width (mul K a b) = mul K a b := by
  rw [mul_eq, wrap_wrap]

/-- `One` fits the kernel. -/
theorem wrap_one (K : Kernel) : wrap K.width K.one = K.one := by cases K <;> decide

/-- Settles O37: each answer is read back as the intermediate result; at the ends one product is 0, the other the
operand. -/
theorem lerpIsTwoNativeMultiplies : Obligations.LerpIsTwoNativeMultiplies := by
  intro K a b t s
  refine ⟨exec_of_answerOf ?_ s, exec_of_answerOf ?_ s, exec_of_answerOf ?_ s⟩
  · simp only [answerOf_lerpInstr, answerOf_addInstr, answerOf_mulInstr, answerOf_subInstr, rawValue_rawWord,
      rawValue_oneWord, wrap_mul, lerp, add, sub, wrap_wrap]
  · rw [answerOf_lerpInstr, rawValue_zero, lerp, mul_zero_eq, sub_zero, wrap_one, mul_one_eq, add_zero, wrap_wrap,
      rawWord_wrap]
  · rw [answerOf_lerpInstr, rawValue_oneWord, lerp, sub_self, wrap_zero, mul_zero_eq, mul_one_eq, zero_add, wrap_wrap,
      rawWord_wrap]

/-! ## The quotient multiplied back -/

theorem abs_sub_truncRat_lt (q : ℚ) : |q - truncRat q| < 1 := by
  unfold truncRat
  split
  · rw [abs_of_nonneg (sub_nonneg.2 (Int.floor_le q))]
    linarith [Int.lt_floor_add_one q]
  · rw [abs_sub_comm, abs_of_nonneg (sub_nonneg.2 (Int.le_ceil q))]
    linarith [Int.ceil_lt_add_one q]

/-- Truncation moves a rational toward 0 and not past it. -/
theorem truncRat_eq_mul (q : ℚ) : ∃ θ : ℚ, 0 ≤ θ ∧ θ ≤ 1 ∧ (truncRat q : ℚ) = θ * q := by
  rcases lt_trichotomy q 0 with h | rfl | h
  · have hceil : truncRat q = ⌈q⌉ := if_neg (by linarith)
    have h0 : (⌈q⌉ : ℚ) ≤ 0 := by exact_mod_cast Int.ceil_le.2 (by exact_mod_cast h.le)
    exact ⟨⌈q⌉ / q, div_nonneg_of_nonpos h0 h.le, (div_le_one_of_neg h).2 (Int.le_ceil q),
      by rw [hceil, div_mul_cancel₀ _ h.ne]⟩
  · exact ⟨0, le_rfl, zero_le_one, by simp [truncRat]⟩
  · have h0 : (0 : ℚ) ≤ ⌊q⌋ := by exact_mod_cast Int.floor_nonneg.2 h.le
    exact ⟨⌊q⌋ / q, div_nonneg h0 h.le, (div_le_one h).2 (Int.floor_le q),
      by rw [truncRat_of_nonneg h.le, div_mul_cancel₀ _ h.ne']⟩

theorem abs_truncRat_le (q : ℚ) : |(truncRat q : ℚ)| ≤ |q| := by
  obtain ⟨θ, h0, h1, hθ⟩ := truncRat_eq_mul q
  rw [hθ, abs_mul, abs_of_nonneg h0]
  exact mul_le_of_le_one_left (abs_nonneg q) h1

/-- An integer below `2^(W-1)` in magnitude is a raw value. -/
theorem wrap_eq_self_of_abs_lt {K : Kernel} {r : Int} (h : |(r : ℚ)| < 2 ^ (K.width - 1)) : wrap K.width r = r := by
  have h' : |r| < 2 ^ (K.width - 1) := by exact_mod_cast h
  obtain ⟨hl, hu⟩ := abs_lt.1 h'
  exact wrap_eq_self (width_pos K) hl.le hu

/-- The truncated quotient of `x * 2^n` by `y`, multiplied back and floored, lies between 0 and `x` and within
`ceil(|y| / 2^n) + 1` of it (90_conflicts.md C18). -/
theorem quotient_times_divisor (x : Int) {y : Int} (n : Nat) (hy : y ≠ 0) :
    let back := truncRat ((x : ℚ) * 2 ^ n / y) * y / 2 ^ n
    min 0 x ≤ back ∧ back ≤ max 0 x ∧ |back - x| ≤ ⌈|(y : ℚ)| / 2 ^ n⌉ + 1 := by
  have hyq : (y : ℚ) ≠ 0 := by exact_mod_cast hy
  have hc : (0 : ℚ) < 2 ^ n := by positivity
  have hnear := abs_sub_truncRat_lt ((x : ℚ) * 2 ^ n / y)
  obtain ⟨θ, h0, h1, hθ⟩ := truncRat_eq_mul ((x : ℚ) * 2 ^ n / y)
  generalize truncRat ((x : ℚ) * 2 ^ n / y) = q at hnear hθ
  -- the exact product is `θ * x`, so on the same side of 0 as `x` and no further
  have hexact : ((q * y : Int) : ℚ) / 2 ^ n = θ * x := by
    push_cast
    rw [hθ]
    field_simp
  have herr : |θ * x - x| < |(y : ℚ)| / 2 ^ n := by
    have hmul : θ * x - x = (x * 2 ^ n / y - q) * -(y / 2 ^ n) := by
      rw [hθ]
      field_simp
      ring
    rw [hmul, abs_mul, abs_neg, abs_div (y : ℚ), abs_of_pos hc]
    exact mul_lt_of_lt_one_left (div_pos (abs_pos.2 hyq) hc) hnear
  obtain ⟨hlo, hhi⟩ := abs_lt.1 herr
  have hceil := Int.le_ceil (|(y : ℚ)| / 2 ^ n)
  have hfl := Int.floor_le (θ * x)
  have hfu := Int.lt_floor_add_one (θ * x)
  rw [← floor_div_two_pow, hexact]
  dsimp only
  refine ⟨Int.le_floor.2 ?_, ?_, ?_⟩
  · push_cast
    rcases le_total 0 (x : ℚ) with hx | hx
    · rw [min_eq_left hx]; positivity
    · rw [min_eq_right hx]; nlinarith
  · have h : (⌊θ * x⌋ : ℚ) ≤ ((max 0 x : Int) : ℚ) := by
      push_cast
      rcases le_total 0 (x : ℚ) with hx | hx
      · rw [max_eq_right hx]; nlinarith
      · rw [max_eq_left hx]; nlinarith
    exact_mod_cast h
  · have h : |(⌊θ * x⌋ : ℚ) - x| ≤ ⌈|(y : ℚ)| / 2 ^ n⌉ + 1 := abs_le.2 ⟨by linarith, by linarith⟩
    exact_mod_cast h

/-- Settles O42: the quotient is its own raw value, and the product multiplied back has not left the kernel's range. -/
theorem divPreciseTimesDivisor : Obligations.DivPreciseTimesDivisor := by
  intro K a b s
  dsimp only
  intro h0 hmin hquot
  have hregular : ¬ (rawValue K b = 0 ∨ rawValue K b = K.minValue) := not_or.2 ⟨h0, hmin⟩
  have hsmall : ¬ (2 : ℚ) ^ K.width ≤ |(rawValue K a : ℚ) * 2 ^ K.frac / rawValue K b| := by
    have hle : (2 : ℚ) ^ (K.width - 1) ≤ 2 ^ K.width := pow_le_pow_right₀ (by norm_num) (by omega)
    linarith
  have hans : rawValue K (answerOf (divpreciseInstr K a b)) =
      truncRat ((rawValue K a : ℚ) * 2 ^ K.frac / rawValue K b) := by
    rw [answerOf_divpreciseInstr, divPrecise_eq, if_neg hregular, if_neg hsmall, rawWord_wrap, rawValue_rawWord,
      wrap_eq_self_of_abs_lt ((abs_truncRat_le _).trans_lt hquot)]
  obtain ⟨hl, hu, hnear⟩ := quotient_times_divisor (rawValue K a) K.frac h0
  obtain ⟨hxl, hxu⟩ := rawValue_range K a
  have hsign : K.minValue < 0 ∧ 0 ≤ K.maxValue := by cases K <;> decide
  refine ⟨_, exec_eq_answered _ s, ?_⟩
  rw [answerOf_mulInstr, mul_eq, rawWord_wrap, rawValue_rawWord, hans,
    wrap_eq_self_of_range (by omega) (by omega)]
  exact hnear

end Sys2Proof.Machine
end

section
/-! Proofs of the statements about rounding: the masks of the model clear or keep the fraction bits, which is the
floor of the represented value and what the floor leaves (43_kernel_patterns.md R217, R218). -/

namespace Sys2Proof.Machine

/-! ## Masks -/

/-- What wraparound to `n + f` bits changes is above bit `n` after a shift by `f`. -/
theorem dvd_wrap_div_sub (n f : Nat) (v : Int) : (2 ^ n : Int) ∣ wrap (n + f) v / 2 ^ f - v / 2 ^ f := by
  obtain ⟨k, hk⟩ := dvd_wrap_sub (n + f) v
  have hv : wrap (n + f) v = v + 2 ^ n * k * 2 ^ f := by rw [pow_add] at hk; linear_combination hk
  rw [hv, Int.add_mul_ediv_right _ _ (by positivity), add_sub_cancel_left]
  exact dvd_mul_right _ _

theorem ofInt_neg_two_pow (n f : Nat) : BitVec.ofInt n (-(2 ^ f)) = BitVec.allOnes n <<< f := by
  have hones : BitVec.ofInt n (-1) = BitVec.allOnes n := by
    rw [BitVec.ofInt_neg, ← BitVec.neg_one_eq_allOnes]
    rfl
  rw [neg_eq_neg_one_mul, ofInt_mul_two_pow, hones]

/-- A mask of ones from bit `f` up clears what a shift to the right and back clears. -/
theorem and_allOnes_shiftLeft {n : Nat} (x : BitVec n) (f : Nat) :
    x &&& BitVec.allOnes n <<< f = x.sshiftRight f <<< f := by
  ext i hi
  rcases lt_or_ge i f with h | h
  · simp [h]
  · simp [BitVec.getElem_sshiftRight, Nat.add_sub_cancel' h, hi, not_lt.2 h]

theorem width_eq_add (K : Kernel) : K.width = K.width - K.frac + K.frac := by cases K <;> rfl

/-- The integer mask leaves the multiple of `2^F` below (43_kernel_patterns.md R191, R217). -/
theorem mask_imask (K : Kernel) (v : Int) : K.mask v K.imask = wrap K.width (v / 2 ^ K.frac * 2 ^ K.frac) := by
  have hdvd := mul_dvd_mul_right (dvd_wrap_div_sub (K.width - K.frac) K.frac v) (2 ^ K.frac)
  rw [← width_eq_add, ← pow_add, ← width_eq_add, sub_mul] at hdvd
  rw [Kernel.mask, Kernel.imask, ofInt_neg_two_pow, and_allOnes_shiftLeft, ← ofInt_toInt_div_two_pow,
    ← ofInt_mul_two_pow, toInt_ofInt_eq_wrap, toInt_ofInt_eq_wrap]
  exact wrap_eq_wrap_iff.2 hdvd

theorem ofInt_and_two_pow_sub_one {n f : Nat} (h : f ≤ n) (v : Int) :
    BitVec.ofInt n v &&& BitVec.ofInt n (2 ^ f - 1) = BitVec.ofInt n (v % 2 ^ f) := by
  have hmask : (2 : Int) ^ f - 1 = ((2 ^ f - 1 : Nat) : Int) := by
    rw [Nat.cast_sub Nat.one_le_two_pow]
    push_cast
    rfl
  have hlt : 2 ^ f - 1 < 2 ^ n := by
    have := Nat.pow_le_pow_right (n := 2) (by decide) h
    have := Nat.one_le_two_pow (n := f)
    omega
  have hmod : (v % 2 ^ n).toNat % 2 ^ f = (v % 2 ^ f % 2 ^ n).toNat := by
    have hpow : (2 : Int) ^ f ≤ 2 ^ n := pow_le_pow_right₀ (by norm_num) h
    have hf0 : 0 ≤ v % 2 ^ f := Int.emod_nonneg _ (by positivity)
    have hf1 : v % 2 ^ f < 2 ^ f := Int.emod_lt_of_pos _ (by positivity)
    have hn0 : 0 ≤ v % 2 ^ n := Int.emod_nonneg _ (by positivity)
    rw [Int.emod_eq_of_lt hf0 (hf1.trans_le hpow)]
    zify
    rw [Int.toNat_of_nonneg hn0, Int.toNat_of_nonneg hf0, Int.emod_emod_of_dvd _ (pow_dvd_pow 2 h)]
  apply BitVec.eq_of_toNat_eq
  rw [hmask, BitVec.ofInt_natCast, BitVec.toNat_and, BitVec.toNat_ofNat, Nat.mod_eq_of_lt hlt,
    Nat.and_two_pow_sub_one_eq_mod, BitVec.toNat_ofInt, BitVec.toNat_ofInt]
  exact_mod_cast hmod

/-- The fraction mask leaves what is above that multiple (43_kernel_patterns.md R191, R217). -/
theorem mask_fmask (K : Kernel) (v : Int) : K.mask v K.fmask = wrap K.width (v % 2 ^ K.frac) := by
  have hle : K.frac ≤ K.width := by cases K <;> decide
  rw [Kernel.mask, Kernel.fmask, ofInt_and_two_pow_sub_one hle, toInt_ofInt_eq_wrap]

/-! ## Rounding -/

theorem floor_eq (K : Kernel) (x : Int) : floor K x = wrap K.width (x / 2 ^ K.frac * 2 ^ K.frac) := mask_imask K x

theorem mask_wrap (K : Kernel) (v m : Int) : K.mask (wrap K.width v) m = K.mask v m := by
  rw [Kernel.mask, ofInt_wrap le_rfl, Kernel.mask]

theorem ceil_eq (K : Kernel) (x : Int) :
    ceil K x = wrap K.width ((x + K.fmask) / 2 ^ K.frac * 2 ^ K.frac) := by
  rw [ceil, mask_wrap, mask_imask]

theorem round_eq (K : Kernel) (x : Int) :
    round K x = wrap K.width ((x + K.half) / 2 ^ K.frac * 2 ^ K.frac) := by
  rw [round, mask_wrap, mask_imask]

theorem floor_add_half (K : Kernel) (x : Int) : ⌊(x : ℚ) / 2 ^ K.frac + 1 / 2⌋ = (x + K.half) / 2 ^ K.frac := by
  rw [← floor_div_two_pow]
  congr 1
  cases K <;> simp only [Kernel.half, Kernel.frac] <;> push_cast <;> ring

/-- Settles O33: the masks leave the multiples of `2^F` that the floors name. -/
theorem roundingOperations : Obligations.RoundingOperations := by
  intro K a s
  dsimp only
  refine ⟨exec_of_answerOf ?_ s, exec_of_answerOf ?_ s, exec_of_answerOf ?_ s, exec_of_answerOf ?_ s⟩
  · rw [answerOf_floorInstr, floor_eq, rawWord_wrap, floor_div_two_pow]
  · rw [answerOf_ceilInstr, ceil_eq, rawWord_wrap, ceil_div_two_pow, Kernel.fmask]
  · rw [answerOf_roundInstr, round_eq, rawWord_wrap, floor_add_half]
  · rw [answerOf_fractInstr, fract, mask_fmask, rawWord_wrap, floor_div_two_pow, Int.emod_def, mul_comm (2 ^ K.frac)]

/-! ## Rounding to an int -/

/-- A wrapped raw value has the wrapped integer part (43_kernel_patterns.md R218). -/
theorem wrap_div_frac (K : Kernel) (v : Int) :
    wrap K.width v / 2 ^ K.frac = wrap (K.width - K.frac) (v / 2 ^ K.frac) := by
  have hl := wrap_lower K.width v
  have hu := wrap_upper K.width v
  have hself : wrap (K.width - K.frac) (wrap K.width v / 2 ^ K.frac) = wrap K.width v / 2 ^ K.frac := by
    cases K <;> simp only [Kernel.width, Kernel.frac] at hl hu ⊢ <;>
      exact wrap_eq_self (by decide) (by omega) (by omega)
  have hdvd := dvd_wrap_div_sub (K.width - K.frac) K.frac v
  rw [← width_eq_add] at hdvd
  rw [← hself, wrap_eq_wrap_iff.2 hdvd]

/-- An integer part is a 32-bit word in both kernels. -/
theorem inWord32_wrap_integerBits (K : Kernel) (v : Int) : InWord32 (wrap (K.width - K.frac) v) := by
  have hl := wrap_lower (K.width - K.frac) v
  have hu := wrap_upper (K.width - K.frac) v
  cases K <;> simp only [Kernel.width, Kernel.frac] at hl hu ⊢ <;> constructor <;> omega

/-- A 32-bit word delivered sign-extended is the same number in 64 bits (30_encoding.md R64). -/
theorem resInt32_of_inWord32 {v : Int} (h : InWord32 v) : resInt32 v = BitVec.ofInt 64 v := by
  rw [← BitVec.ofInt_toInt (x := resInt32 v), resInt32_toInt, wrap_of_inWord32 h]

/-- The integer part of a wrapped raw value, delivered as an `int`, is its integer bits sign-extended
(43_kernel_patterns.md R218). -/
theorem resInt32_integerPart (K : Kernel) (v : Int) : resInt32 (wrap 32 (shr (wrap K.width v) K.frac)) =
    (BitVec.ofInt (K.width - K.frac) (v / 2 ^ K.frac)).signExtend 64 := by
  have hwidth : K.width - K.frac ≤ 64 := by cases K <;> decide
  have hint := inWord32_wrap_integerBits K (v / 2 ^ K.frac)
  apply BitVec.eq_of_toInt_eq
  rw [shr_ofNat, wrap_div_frac, resInt32_toInt, wrap_wrap, wrap_of_inWord32 hint, BitVec.toInt_signExtend_of_le hwidth,
    toInt_ofInt_eq_wrap]

/-- Settles O34: the biased raw value wraps before the shift, so its integer part wraps to `W - F` bits; without a bias
nothing wraps. -/
theorem roundingToInt : Obligations.RoundingToInt := by
  intro K a s
  dsimp only
  refine ⟨exec_of_answerOf ?_ s, exec_of_answerOf ?_ s, exec_of_answerOf ?_ s⟩
  · have hint : InWord32 (rawValue K a / 2 ^ K.frac) := by
      rw [← wrap_rawValue, wrap_div_frac]
      exact inWord32_wrap_integerBits K _
    rw [answerOf_floortointInstr, floorToInt, shr_ofNat, wrap_of_inWord32 hint, resInt32_of_inWord32 hint,
      floor_div_two_pow]
  · rw [answerOf_ceiltointInstr, ceilToInt, resInt32_integerPart, ceil_div_two_pow, Kernel.fmask]
  · rw [answerOf_roundtointInstr, roundToInt, resInt32_integerPart, floor_add_half]

end Sys2Proof.Machine
end

section
/-! Proofs of the statements about reciprocal, square root, exponential, logarithm and power: each is an evaluator's
answer for the mantissa or the fraction, scaled by the exponent (43_kernel_patterns.md R200 to R207). -/

namespace Sys2Proof.Machine

/-! ## The functions of a positive operand -/

theorem shr_one (v : Int) : shr v 1 = v / 2 := rfl

theorem rcp_of_nonpos (P : Params) (K : Kernel) (t : Tier) {x : Int} (h : x ≤ 0) : rcp P K t x = 0 := if_pos h

theorem sqrt_of_nonpos (P : Params) (K : Kernel) (t : Tier) {x : Int} (h : x ≤ 0) : sqrt P K t x = 0 := if_pos h

theorem rsqrt_of_nonpos (P : Params) (K : Kernel) (t : Tier) {x : Int} (h : x ≤ 0) : rsqrt P K t x = 0 := if_pos h

theorem log2_of_nonpos (P : Params) (K : Kernel) (t : Tier) {x : Int} (h : x ≤ 0) : log2 P K t x = 0 := if_pos h

theorem rcp_natCast (P : Params) {K : Kernel} (t : Tier) {m : Nat} (hm : m ≠ 0) (hw : m < 2 ^ K.width) :
    rcp P K t m = wrap K.width (shr (rcpEval P.rom t (normalize K.width m).k) (30 + valueExp K m - K.frac)) := by
  have hpos : ¬ (m : Int) ≤ 0 := by omega
  simp only [rcp, hpos, if_false, normalize_exp K hm hw]

theorem sqrt_natCast (P : Params) {K : Kernel} (t : Tier) {m : Nat} (hm : m ≠ 0) (hw : m < 2 ^ K.width) :
    sqrt P K t m = wrap K.width (shr ((if valueExp K m % 2 = 1 then P.rom.sqrt2 else one30) *
      sqrtEval P.rom t (normalize K.width m).k) (60 - K.frac - valueExp K m / 2)) := by
  have hpos : ¬ (m : Int) ≤ 0 := by omega
  simp only [sqrt, hpos, if_false, normalize_exp K hm hw, shr_one]

theorem rsqrt_natCast (P : Params) {K : Kernel} (t : Tier) {m : Nat} (hm : m ≠ 0) (hw : m < 2 ^ K.width) :
    rsqrt P K t m = wrap K.width (shr ((if valueExp K m % 2 = 1 then P.rom.rsqrt2 else one30) *
      rsqrtEval P.rom t (normalize K.width m).k) (60 - K.frac + valueExp K m / 2)) := by
  have hpos : ¬ (m : Int) ≤ 0 := by omega
  simp only [rsqrt, hpos, if_false, normalize_exp K hm hw, shr_one]

theorem log2_natCast (P : Params) {K : Kernel} (t : Tier) {m : Nat} (hm : m ≠ 0) (hw : m < 2 ^ K.width) :
    log2 P K t m = wrap K.width (valueExp K m * K.one +
      shr (log2Eval P.rom t (normalize K.width m).k) (30 - K.frac)) := by
  have hpos : ¬ (m : Int) ≤ 0 := by omega
  simp only [log2, hpos, if_false, normalize_exp K hm hw]

/-- A raw value is not positive, or is a magnitude the normalizer takes. -/
theorem rawValue_cases (K : Kernel) (a : Word) :
    rawValue K a ≤ 0 ∨ ∃ m : Nat, rawValue K a = m ∧ m ≠ 0 ∧ m < 2 ^ K.width := by
  rcases le_or_gt (rawValue K a) 0 with h | h
  · exact .inl h
  · exact .inr ⟨(rawValue K a).natAbs, by omega, by omega, rawValue_natAbs_lt K a⟩

/-! ## Reciprocal and square root -/

/-- Settles O43: the mantissa word carries the normalizer's fraction, and the shift is the scaling. -/
theorem rcpScalesTheEvaluator : Obligations.RcpScalesTheEvaluator := by
  intro K t a s
  refine exec_of_answerOf ?_ s
  rw [answerOf_rcpInstr]
  obtain h | ⟨m, hx, hm, hw⟩ := rawValue_cases K a
  · rw [rcp_of_nonpos _ K t h, rawWord_zero]
    exact (if_pos h).symm
  · have hpos : ¬ (m : Int) ≤ 0 := by omega
    rw [hx, rcp_natCast _ t hm hw, rawWord_wrap]
    simp only [hpos, if_false, Int.natAbs_natCast, answerOf_rcpEvalInstr, opndInt32_mantissaWord hm hw,
      floorScaled_eq_shr, neg_neg]
    rfl

/-- Settles O44: `One` times the reciprocal, shifted by the exponent, has lost its `F` zero bits. -/
theorem rcpIsDivOfOne : Obligations.RcpIsDivOfOne := by
  intro K t a s hpos
  refine exec_of_answerOf ?_ s
  obtain h | ⟨m, hx, hm, hw⟩ := rawValue_cases K a
  · omega
  · have hmin : (m : Int) ≠ K.minValue := by
      have : K.minValue < 0 := by cases K <;> decide
      omega
    have hneg : ¬ (m : Int) < 0 := by omega
    have hshift (r e : Int) : shr (K.one * r) (30 + e) = shr r (30 + e - K.frac) := by
      rw [mul_comm, Kernel.one, ← shr_mul_two_pow r K.frac, add_sub_cancel]
    rw [answerOf_rcpInstr, answerOf_divInstr, rawValue_oneWord, hx, rcp_natCast _ t hm hw,
      divApprox_of_ne _ t _ (by omega) hmin (by simpa using hw), if_neg hneg, Int.natAbs_natCast, hshift]

/-- Settles O45: the parity and the half of the exponent, and one shift. -/
theorem sqrtHalvesTheExponent : Obligations.SqrtHalvesTheExponent := by
  intro K t a s
  refine exec_of_answerOf ?_ s
  rw [answerOf_sqrtInstr]
  obtain h | ⟨m, hx, hm, hw⟩ := rawValue_cases K a
  · rw [sqrt_of_nonpos _ K t h, rawWord_zero]
    exact (if_pos h).symm
  · have hpos : ¬ (m : Int) ≤ 0 := by omega
    have hscale (e : Int) : -(e / 2 + K.frac - 60) = 60 - K.frac - e / 2 := by ring
    rw [hx, sqrt_natCast _ t hm hw, rawWord_wrap]
    simp only [hpos, if_false, Int.natAbs_natCast, answerOf_sqrtEvalInstr, opndInt32_mantissaWord hm hw,
      floorScaled_eq_shr, hscale]
    rfl

/-- Settles O46: as the square root, with the half of the exponent negated. -/
theorem rSqrtNegatesTheHalvedExponent : Obligations.RSqrtNegatesTheHalvedExponent := by
  intro K t a s
  refine exec_of_answerOf ?_ s
  rw [answerOf_rsqrtInstr]
  obtain h | ⟨m, hx, hm, hw⟩ := rawValue_cases K a
  · rw [rsqrt_of_nonpos _ K t h, rawWord_zero]
    exact (if_pos h).symm
  · have hpos : ¬ (m : Int) ≤ 0 := by omega
    have hscale (e : Int) : -(K.frac - 60 - e / 2) = 60 - K.frac + e / 2 := by ring
    rw [hx, rsqrt_natCast _ t hm hw, rawWord_wrap]
    simp only [hpos, if_false, Int.natAbs_natCast, answerOf_rsqrtEvalInstr, opndInt32_mantissaWord hm hw,
      floorScaled_eq_shr, hscale]
    rfl

/-- Settles O49: the evaluator's answer keeps its value from Q2.30 to the kernel's format. -/
theorem log2AddsTheExponent : Obligations.Log2AddsTheExponent := by
  intro K t a s
  refine exec_of_answerOf ?_ s
  rw [answerOf_log2Instr]
  obtain h | ⟨m, hx, hm, hw⟩ := rawValue_cases K a
  · rw [log2_of_nonpos _ K t h, rawWord_zero]
    exact (if_pos h).symm
  · have hpos : ¬ (m : Int) ≤ 0 := by omega
    rw [hx, log2_natCast _ t hm hw, rawWord_wrap]
    simp only [hpos, if_false, Int.natAbs_natCast, answerOf_log2EvalInstr, opndInt32_mantissaWord hm hw,
      floorScaled_eq_shr, neg_sub]
    rfl

/-! ## Exponentials -/

/-- The argument of `exp2` lies between the clamps (43_kernel_patterns.md R203). -/
def Exp2InRange (K : Kernel) (v : Int) : Prop :=
  -(K.frac : Int) * K.one ≤ v ∧ v < ((K.width : Int) - K.frac - 1) * K.one

/-- The fraction of an argument as a Q2.30 word (43_kernel_patterns.md R203). -/
def fractionQ30 (K : Kernel) (v : Int) : Int := shr (v % 2 ^ K.frac) ((K.frac : Int) - 30)

theorem fractionQ30_inWord32 (K : Kernel) (v : Int) : InWord32 (fractionQ30 K v) := by
  cases K with
  | q32 =>
    have hshift : fractionQ30 .q32 v = v % 2 ^ 32 / 2 ^ 2 := rfl
    rw [hshift]
    constructor <;> omega
  | q16 =>
    have hshift : fractionQ30 .q16 v = v % 2 ^ 16 * 2 ^ 14 := rfl
    rw [hshift]
    constructor <;> omega

theorem exp2Core_of_ge (P : Params) {K : Kernel} (t : Tier) {v : Int}
    (h : ((K.width : Int) - K.frac - 1) * K.one ≤ v) : exp2Core P K t v = K.maxValue := if_pos h

theorem exp2Core_of_lt (P : Params) {K : Kernel} (t : Tier) {v : Int}
    (h : v < -(K.frac : Int) * K.one) : exp2Core P K t v = 0 := by
  have hmax : ¬ ((K.width : Int) - K.frac - 1) * K.one ≤ v := by
    cases K <;> simp only [Kernel.width, Kernel.frac, Kernel.one] at h ⊢ <;> omega
  exact (if_neg hmax).trans (if_pos h)

theorem exp2Core_of_inRange (P : Params) {K : Kernel} (t : Tier) {v : Int} (h : Exp2InRange K v) :
    exp2Core P K t v =
      wrap K.width (shr (exp2Eval P.rom t (fractionQ30 K v)) (30 - K.frac - v / 2 ^ K.frac)) := by
  obtain ⟨hl, hu⟩ := h
  exact (if_neg hu.not_ge).trans (if_neg hl.not_gt)

/-- An argument is clamped above, clamped below or in range. -/
theorem exp2InRange_of_not {K : Kernel} {v : Int} (hmax : ¬ ((K.width : Int) - K.frac - 1) * 2 ^ K.frac ≤ v)
    (hmin : ¬ v < -(K.frac : Int) * 2 ^ K.frac) : Exp2InRange K v :=
  ⟨not_lt.1 hmin, not_le.1 hmax⟩

theorem wrap_of_exp2InRange {K : Kernel} {v : Int} (h : Exp2InRange K v) : wrap K.width v = v := by
  obtain ⟨hl, hu⟩ := h
  refine wrap_eq_self_of_range ?_ ?_ <;>
    cases K <;> simp only [Kernel.width, Kernel.frac, Kernel.one, Kernel.minValue, Kernel.maxValue] at hl hu ⊢ <;>
    omega

/-- Settles O47: the two clamps; between them the fraction reaches the evaluator and the integer part is the shift. -/
theorem exp2ClampsAndShifts : Obligations.Exp2ClampsAndShifts := by
  intro K t a s
  refine exec_of_answerOf ?_ s
  rw [answerOf_exp2Instr, exp2]
  dsimp only
  split
  case isTrue h => rw [exp2Core_of_ge _ t h, Kernel.maxValue]
  case isFalse hmax =>
    split
    case isTrue h => rw [exp2Core_of_lt _ t h, rawWord_zero]
    case isFalse hmin =>
      have hfrac (x : Int) : x - x / 2 ^ K.frac * 2 ^ K.frac = x % 2 ^ K.frac := by rw [Int.emod_def, mul_comm]
      have hscale (i : Int) : -(i + K.frac - 30) = 30 - K.frac - i := by ring
      have hk : wrap 32 (shr (rawValue K a % 2 ^ K.frac) (K.frac - 30)) = fractionQ30 K (rawValue K a) :=
        wrap_of_inWord32 (fractionQ30_inWord32 K _)
      rw [exp2Core_of_inRange _ t (exp2InRange_of_not hmax hmin), rawWord_wrap, answerOf_exp2EvalInstr,
        opndInt32_ofInt, floor_div_two_pow, hfrac, floorScaled_eq_shr, floorScaled_eq_shr, neg_sub, hscale, hk]
      rfl

/-- The clamps of the statements around the kernel's `exp2` are those of the model around an unbounded argument. -/
theorem clamped_exp2_eq (K : Kernel) (t : Tier) (u : Int) :
    (if ((K.width : Int) - K.frac - 1) * 2 ^ K.frac ≤ u then rawWord K (2 ^ (K.width - 1) - 1)
     else if u < -(K.frac : Int) * 2 ^ K.frac then 0
     else answerOf (exp2Instr K t (rawWord K u))) = rawWord K (exp2Core specParams K t u) := by
  split
  case isTrue h => rw [exp2Core_of_ge _ t h, Kernel.maxValue]
  case isFalse hmax =>
    split
    case isTrue h => rw [exp2Core_of_lt _ t h, rawWord_zero]
    case isFalse hmin =>
      rw [answerOf_exp2Instr, rawValue_rawWord, wrap_of_exp2InRange (exp2InRange_of_not hmax hmin), exp2]

/-- The exponential of the statements is the model's, also of an argument no word can hold (43_kernel_patterns.md
R204). -/
theorem expWord_eq (K : Kernel) (t : Tier) (v : Int) : expWord K t v = rawWord K (expCore specParams K t v) := by
  have hfloor (c : Int) : ⌊((v * c : Int) : ℚ) / 2 ^ K.frac⌋ = shr (v * c) K.frac := floor_div_two_pow _ _
  cases K with
  | q32 => exact (clamped_exp2_eq .q32 t _).trans (by rw [hfloor]; rfl)
  | q16 => exact (clamped_exp2_eq .q16 t _).trans (by rw [hfloor]; rfl)

/-- Settles O48: `expWord_eq` at the operand. -/
theorem expIsExp2OfTheExactProduct : Obligations.ExpIsExp2OfTheExactProduct := by
  intro K t a s
  rw [exec_of_answerOf (answerOf_expInstr K t a), expWord_eq, exp]

/-! ## Logarithm and power -/

/-- A logarithm is reduced to the width already. -/
theorem wrap_log2 (P : Params) (K : Kernel) (t : Tier) (x : Int) : wrap K.width (log2 P K t x) = log2 P K t x := by
  unfold log2
  split
  · exact wrap_zero _
  · exact wrap_wrap _ _

theorem wrap_log (P : Params) (K : Kernel) (t : Tier) (x : Int) : wrap K.width (log P K t x) = log P K t x :=
  wrap_mul K _ _

/-- Settles O50: the answer of `log2` is read back as the value multiplied. -/
theorem logIsLog2TimesLn2 : Obligations.LogIsLog2TimesLn2 := by
  intro K t a s
  refine exec_of_answerOf ?_ s
  rw [answerOf_logInstr, answerOf_mulInstr, answerOf_log2Instr, rawValue_rawWord, wrap_log2, log]
  cases K <;> rfl

/-- Settles O51: the base is tested first; the exact product with the answer of `log` is the argument of the
exponential. -/
theorem powIsExpOfTheExactProduct : Obligations.PowIsExpOfTheExactProduct := by
  intro K t a b s
  refine exec_of_answerOf ?_ s
  rw [answerOf_powInstr, answerOf_logInstr, rawValue_rawWord, wrap_log, expWord_eq, floor_div_two_pow, pow,
    apply_ite (rawWord K), rawWord_zero, shr_ofNat]

/-! ## Powers of two -/

theorem shr_zero_left (e : Int) : shr 0 e = 0 := by cases e <;> simp [shr]

/-- `SHR` of the 1.0 that an evaluator gives is a power of two. -/
theorem shr_two_pow (n : Nat) (e : Int) : shr (2 ^ n) (n + e) = shr 1 e := by
  simpa using shr_mul_two_pow 1 n e

theorem shr_one_neg (n : Nat) : shr 1 (-(n : Int)) = 2 ^ n := by rw [shr_neg, one_mul]

theorem valueExp_two_pow (K : Kernel) (j : Nat) : valueExp K (2 ^ j) = j - K.frac := by
  rw [valueExp, Nat.log2_two_pow]

/-- The exponents of the powers of two below the sign bit are between the clamps of `exp2`. -/
theorem exp2InRange_exponent {K : Kernel} {j : Nat} (hj : j ≤ K.width - 2) :
    Exp2InRange K (((j : Int) - K.frac) * 2 ^ K.frac) := by
  constructor <;> cases K <;> simp only [Kernel.width, Kernel.frac, Kernel.one] at hj ⊢ <;> omega

theorem exp2Core_exponent {K : Kernel} (t : Tier) {j : Nat} (hj : j ≤ K.width - 2) :
    exp2Core specParams K t (((j : Int) - K.frac) * 2 ^ K.frac) = wrap K.width (2 ^ j) := by
  have hfrac : fractionQ30 K (((j : Int) - K.frac) * 2 ^ K.frac) = 0 := by
    rw [fractionQ30, Int.mul_emod_left, shr_zero_left]
  have hone : exp2Eval specParams.rom t 0 = 2 ^ 30 := exp2Eval_zero t
  have hshift : (30 : Int) - K.frac - ((j : Int) - K.frac) = (30 : Nat) + -(j : Int) := by push_cast; ring
  rw [exp2Core_of_inRange _ t (exp2InRange_exponent hj), hfrac, hone, Int.mul_ediv_cancel _ (by positivity), hshift,
    shr_two_pow, shr_one_neg]

/-- Settles O52: at mantissa fraction 0 every evaluator gives 1.0 or 0, and what is left is the shift. -/
theorem powersOfTwoAreExact : Obligations.PowersOfTwoAreExact := by
  intro K t j s hj
  have hlt : j < K.width := by have := width_pos K; omega
  have hm : 2 ^ j ≠ 0 := by positivity
  have hw : 2 ^ j < 2 ^ K.width := Nat.pow_lt_pow_right (by decide) hlt
  have hx : rawValue K (rawWord K (2 ^ j)) = (2 ^ j : Nat) := by rw [rawValue_two_pow hj]; push_cast; rfl
  have hk : (normalize K.width ((2 ^ j : Nat) : Int)).k = 0 := by push_cast; exact (normalize_two_pow hlt).2
  refine ⟨exec_of_answerOf ?log2 s, exec_of_answerOf ?exp2 s, exec_of_answerOf ?rcp s, fun heven =>
    ⟨exec_of_answerOf ?sqrt s, exec_of_answerOf ?rsqrt s⟩⟩
  case log2 =>
    have hzero : log2Eval specParams.rom t 0 = 0 := log2Eval_zero t
    rw [answerOf_log2Instr, hx, log2_natCast _ t hm hw, hk, hzero, shr_zero_left, add_zero, rawWord_wrap,
      valueExp_two_pow, Kernel.one]
  case exp2 =>
    rw [answerOf_exp2Instr, rawValue_rawWord, wrap_of_exp2InRange (exp2InRange_exponent hj), exp2,
      exp2Core_exponent t hj, rawWord_wrap]
  case rcp =>
    have hone : rcpEval specParams.rom t 0 = 2 ^ 30 := rcpEval_zero t
    have hshift : (30 : Int) + ((j : Int) - K.frac) - K.frac = (30 : Nat) + -(2 * (K.frac : Int) - j) := by
      push_cast; ring
    rw [answerOf_rcpInstr, hx, rcp_natCast _ t hm hw, hk, hone, rawWord_wrap, valueExp_two_pow, hshift, shr_two_pow,
      floorScaled_eq_shr]
  case sqrt =>
    have hone : sqrtEval specParams.rom t 0 = one30 := sqrtEval_zero t
    have hexp : ¬ ((j : Int) - K.frac) % 2 = 1 := by cases K <;> simp only [Kernel.frac] <;> omega
    have hshift : (60 : Int) - K.frac - ((j : Int) - K.frac) / 2 = (60 : Nat) + -((j + K.frac) / 2 : Nat) := by
      cases K <;> simp only [Kernel.frac] <;> omega
    have hsquare : one30 * one30 = 2 ^ 60 := by decide
    rw [answerOf_sqrtInstr, hx, sqrt_natCast _ t hm hw, hk, hone, rawWord_wrap, valueExp_two_pow, if_neg hexp, hsquare,
      hshift, shr_two_pow, shr_one_neg]
  case rsqrt =>
    have hone : rsqrtEval specParams.rom t 0 = one30 := rsqrtEval_zero t
    have hexp : ¬ ((j : Int) - K.frac) % 2 = 1 := by cases K <;> simp only [Kernel.frac] <;> omega
    have hshift : (60 : Int) - K.frac + ((j : Int) - K.frac) / 2 = (60 : Nat) + -((3 * K.frac - j) / 2 : Nat) := by
      cases K <;> simp only [Kernel.frac, Kernel.width] at hj ⊢ <;> omega
    have hsquare : one30 * one30 = 2 ^ 60 := by decide
    rw [answerOf_rsqrtInstr, hx, rsqrt_natCast _ t hm hw, hk, hone, rawWord_wrap, valueExp_two_pow, if_neg hexp,
      hsquare, hshift, shr_two_pow, shr_one_neg]

end Sys2Proof.Machine
end

section
/-! Proofs of the statements about trigonometry: the phase word and the unit sine, the octant angle and its quadrant,
and the arc functions composed of other operations (43_kernel_patterns.md R208 to R215). -/

namespace Sys2Proof.Machine

/-! ## The phase -/

/-- The operand word of the phase is read as the phase (43_kernel_patterns.md R208). -/
theorem opndInt32_phaseWord (K : Kernel) (a : Word) :
    opndInt32 (phaseWord K a) = phase specParams K (rawValue K a) := by
  have hword : phaseWord K a = resInt32 ⌊((rawValue K a * 683565276 : Int) : ℚ) / 2 ^ K.frac⌋ := rfl
  rw [hword, opndInt32_resInt32, floor_div_two_pow, phase, shr_ofNat]
  rfl

theorem opndInt32_add (x y : Word) : opndInt32 (x + y) = wrap 32 (opndInt32 x + opndInt32 y) := by
  have hlow : lowHalf (x + y) = lowHalf x + lowHalf y := BitVec.setWidth_add _ _ (by decide)
  rw [opndInt32, hlow, BitVec.toInt_add]
  rfl

/-- A quarter turn on. -/
theorem opndInt32_phaseWord_add (K : Kernel) (a : Word) :
    opndInt32 (phaseWord K a + 0x40000000) = wrap 32 (phase specParams K (rawValue K a) + 2 ^ 30) := by
  have hquarter : opndInt32 0x40000000 = 2 ^ 30 := rfl
  rw [opndInt32_add, opndInt32_phaseWord, hquarter]

/-- Settles O53: the evaluator's answer at the phase word, its value kept from Q2.30 to the kernel's format. -/
theorem sinAndCosOfThePhase : Obligations.SinAndCosOfThePhase := by
  intro K t a s
  have hsin (z : Int) : rawWord K (fromQ30 K (unitSin specParams.rom t z)) =
      rawWord K (floorScaled (unitSin specRom t z) (K.frac - 30)) := by
    rw [fromQ30, rawWord_wrap, floorScaled_eq_shr, neg_sub]
    rfl
  refine ⟨exec_of_answerOf ?_ s, exec_of_answerOf ?_ s⟩
  · rw [answerOf_sinInstr, sin, hsin, answerOf_usinEvalInstr, opndInt32_phaseWord]
  · rw [answerOf_cosInstr, cos, hsin, answerOf_usinEvalInstr, opndInt32_phaseWord_add]

/-- A word that is a 32-bit number is the same raw value in both kernels. -/
theorem rawValue_of_inWord32 (K : Kernel) {w : Word} (h : InWord32 w.toInt) : rawValue K w = w.toInt := by
  cases K with
  | q32 => rfl
  | q16 =>
    rw [rawValue_q16]
    conv_lhs => rw [← BitVec.ofInt_toInt (x := w), opndInt32_ofInt, wrap_of_inWord32 h]

/-- A unit-sine answer is divided as a raw value of the kernel (43_kernel_patterns.md R211). -/
theorem rawValue_usinEvalInstr (K : Kernel) (t : Tier) (k : Word) :
    rawValue K (answerOf (usinEvalInstr t k)) = unitSin specRom t (opndInt32 k) := by
  have h := answerOf_usinEvalInstr t k
  rw [rawValue_of_inWord32 K (h ▸ unitSin_inWord32 t _), h]

/-- Settles O54: the dividend and the divisor are the evaluator's answers, read back. -/
theorem tanIsSineOverCosine : Obligations.TanIsSineOverCosine := by
  intro K t a s
  refine exec_of_answerOf ?_ s
  rw [answerOf_tanInstr, answerOf_divInstr, rawValue_usinEvalInstr, rawValue_usinEvalInstr, opndInt32_phaseWord,
    opndInt32_phaseWord_add]
  rfl

/-! ## The octant angle -/

/-- The arctangent evaluator reads 32 bits of its argument (41_poly_engine.md R129). -/
theorem atanEval_wrap (rom : Rom) (t : Tier) (k : Int) : atanEval rom t (wrap 32 k) = atanEval rom t k := by
  rw [atanEval_eq, wrap_wrap, ← atanEval_eq]

/-- The octant angle of the statements is the model's (43_kernel_patterns.md R212). -/
theorem octantRaw_eq (K : Kernel) (t : Tier) (num : Nat) {den : Nat} (h0 : den ≠ 0) (hw : den < 2 ^ K.width) :
    octantRaw K t num den = octantAngle specParams K t num den := by
  have hmsb : (normalize K.width (den : Int)).msb = den.log2 := by
    rw [normalize_msb (by omega) (by exact_mod_cast hw), Int.toNat_natCast]
  have hlimit (q : Int) : min q (2 ^ 30) = if 2 ^ 30 < q then 2 ^ 30 else q := by split <;> omega
  simp only [octantRaw, octantAngle, answerOf_rcpEvalInstr, opndInt32_mantissaWord h0 hw, floorScaled_eq_shr, neg_sub,
    answerOf_atanEvalInstr, opndInt32_ofInt, atanEval_wrap, floor_div_two_pow, hmsb, hlimit]
  rfl

/-- The angle of the ratio 0 is 0 (41_poly_engine.md R152 (a)). -/
theorem octantAngle_zero (K : Kernel) (t : Tier) (den : Int) : octantAngle specParams K t 0 den = 0 := by
  have hatan : atanEval specParams.rom t 0 = 0 := atanEval_zero t
  have hlimit : ¬ (2 : Int) ^ 30 < 0 := by decide
  simp only [octantAngle, shr_zero_left, zero_mul, hlimit, if_false, hatan]

/-! ## The quadrant -/

theorem atan2_origin (P : Params) (K : Kernel) (t : Tier) : atan2 P K t 0 0 = 0 := rfl

/-- No swap: the angle against the x axis (43_kernel_patterns.md R212). -/
theorem atan2_of_le (P : Params) (K : Kernel) (t : Tier) {y x : Int} (h0 : x ≠ 0) (h : y.natAbs ≤ x.natAbs) :
    let v := octantAngle P K t y.natAbs x.natAbs
    atan2 P K t y x = wrap K.width
      (if x < 0 then (if y < 0 then v - (P.constants K).pi else (P.constants K).pi - v)
       else (if y < 0 then -v else v)) := by
  have horigin : ¬ ((y.natAbs : Int) = 0 ∧ (x.natAbs : Int) = 0) := by omega
  have hswap : ¬ (x.natAbs : Int) < y.natAbs := by omega
  exact (if_neg horigin).trans (if_neg hswap)

/-- The swap: the angle against the y axis (43_kernel_patterns.md R212). -/
theorem atan2_of_lt (P : Params) (K : Kernel) (t : Tier) {y x : Int} (h : x.natAbs < y.natAbs) :
    let v := octantAngle P K t x.natAbs y.natAbs
    atan2 P K t y x = wrap K.width
      (if y < 0 then (if x < 0 then -(P.constants K).piHalf - v else -(P.constants K).piHalf + v)
       else (if x < 0 then (P.constants K).piHalf + v else (P.constants K).piHalf - v)) := by
  have horigin : ¬ ((y.natAbs : Int) = 0 ∧ (x.natAbs : Int) = 0) := by omega
  have hswap : (x.natAbs : Int) < y.natAbs := by omega
  exact (if_neg horigin).trans (if_pos hswap)

/-- The result word of `atan2`, with the angle as the statements compute it. -/
theorem rawWord_atan2 (K : Kernel) (t : Tier) {y x : Int} (hy : y.natAbs < 2 ^ K.width) (hx : x.natAbs < 2 ^ K.width) :
    let v := octantRaw K t (min y.natAbs x.natAbs) (max y.natAbs x.natAbs)
    let c := specParams.constants K
    rawWord K (atan2 specParams K t y x) =
      if y = 0 ∧ x = 0 then 0
      else if y.natAbs ≤ x.natAbs then
        if 0 ≤ x then rawWord K (if 0 ≤ y then v else -v) else rawWord K (if 0 ≤ y then c.pi - v else v - c.pi)
      else
        if 0 ≤ y then rawWord K (if 0 ≤ x then c.piHalf - v else c.piHalf + v)
        else rawWord K (if 0 ≤ x then v - c.piHalf else -c.piHalf - v) := by
  dsimp only
  split
  case isTrue h =>
    obtain ⟨rfl, rfl⟩ := h
    rw [atan2_origin, rawWord_zero]
  case isFalse h =>
    split
    case isTrue hle =>
      have h0 : x ≠ 0 := by omega
      rw [min_eq_left hle, max_eq_right hle, octantRaw_eq K t _ (by omega) hx, atan2_of_le _ K t h0 hle, rawWord_wrap]
      simp only [← not_lt, ite_not, apply_ite (rawWord K)]
    case isFalse hlt =>
      have hlt' := not_le.1 hlt
      rw [min_eq_right hlt'.le, max_eq_left hlt'.le, octantRaw_eq K t _ (by omega) hy, atan2_of_lt _ K t hlt',
        rawWord_wrap, neg_add_eq_sub]
      simp only [← not_lt, ite_not, apply_ite (rawWord K)]

/-- Settles O55: the octant angle is that of the smaller over the larger magnitude, and the signs select its offset. -/
theorem atan2SelectsTheQuadrant : Obligations.Atan2SelectsTheQuadrant := by
  intro K t a b s
  refine exec_of_answerOf ?_ s
  have hquadrant := rawWord_atan2 K t (rawValue_natAbs_lt K a) (rawValue_natAbs_lt K b)
  rw [answerOf_atan2Instr]
  cases K <;> exact hquadrant

/-! ## The axes -/

theorem atan2_zero_left (K : Kernel) (t : Tier) (x : Int) :
    atan2 specParams K t 0 x = if 0 ≤ x then 0 else wrap K.width (specParams.constants K).pi := by
  rcases eq_or_ne x 0 with rfl | h0
  · exact atan2_origin _ K t
  · rw [atan2_of_le _ K t h0 (by simp), Int.natAbs_zero, Nat.cast_zero, octantAngle_zero]
    simp only [lt_self_iff_false, if_false, sub_zero, ← not_le, ite_not, apply_ite (wrap K.width), wrap_zero]

theorem atan2_zero_right (K : Kernel) (t : Tier) (y : Int) :
    atan2 specParams K t y 0 = if y = 0 then 0 else if 0 < y then wrap K.width (specParams.constants K).piHalf
      else wrap K.width (-(specParams.constants K).piHalf) := by
  rcases lt_trichotomy y 0 with h | rfl | h
  · rw [atan2_of_lt _ K t (by omega), Int.natAbs_zero, Nat.cast_zero, octantAngle_zero, if_pos h, if_neg h.ne,
      if_neg h.not_gt, if_neg (lt_irrefl 0), add_zero]
  · exact atan2_origin _ K t
  · rw [atan2_of_lt _ K t (by omega), Int.natAbs_zero, Nat.cast_zero, octantAngle_zero, if_neg h.not_gt, if_neg h.ne',
      if_pos h, if_neg (lt_irrefl 0), sub_zero]

/-- Settles O56: on an axis the octant angle is 0, and what is left is the offset. -/
theorem atan2AxesAreExact : Obligations.Atan2AxesAreExact := by
  intro K t a s
  refine ⟨exec_of_answerOf ?yZero s, exec_of_answerOf ?xZero s, exec_of_answerOf ?atan s⟩
  case yZero =>
    rw [answerOf_atan2Instr, rawValue_zero, atan2_zero_left, apply_ite (rawWord K), rawWord_zero, rawWord_wrap]
    cases K <;> rfl
  case xZero =>
    rw [answerOf_atan2Instr, rawValue_zero, atan2_zero_right, apply_ite (rawWord K), apply_ite (rawWord K),
      rawWord_zero, rawWord_wrap, rawWord_wrap]
    cases K <;> rfl
  case atan =>
    have hone : 0 ≤ K.one := by cases K <;> decide
    rw [answerOf_atanInstr, rawValue_zero, atan, atan2_zero_left, if_pos hone, rawWord_zero]

/-- Settles O57: `One` is read back from its word. -/
theorem atanIsAtan2WithOne : Obligations.AtanIsAtan2WithOne := by
  intro K t a s
  refine exec_of_answerOf ?_ s
  rw [answerOf_atanInstr, answerOf_atan2Instr, rawValue_oneWord, atan]

/-! ## Arc sine and arc cosine -/

theorem wrap_sqrt (P : Params) (K : Kernel) (t : Tier) (x : Int) : wrap K.width (sqrt P K t x) = sqrt P K t x := by
  unfold sqrt
  split
  · exact wrap_zero _
  · exact wrap_wrap _ _

/-- The root of the statements, step by step as the opcodes answer, is the model's (43_kernel_patterns.md R214). -/
theorem rawValue_arcRootWord (t : Tier) (a : Word) :
    rawValue .q32 (arcRootWord t a) = arcRoot specParams t a.toInt := by
  have hadd (x y : Word) := answerOf_addInstr .q32 x y
  have hsub (x y : Word) := answerOf_subInstr .q32 x y
  have hmul (x y : Word) := answerOf_mulInstr .q32 x y
  simp only [addInstr, subInstr, mulInstr] at hadd hsub hmul
  simp only [arcRootWord, answerOf_sqrtInstr, hadd, hsub, hmul, rawValue_rawWord, rawValue_oneWord, add, sub, wrap_wrap,
    wrap_mul, wrap_sqrt]
  rfl

/-- Settles O58: the domain test, and `atan2` of the operand and the root read back. -/
theorem arcFunctionsOfQ32 : Obligations.ArcFunctionsOfQ32 := by
  intro t a s
  refine ⟨exec_of_answerOf ?_ s, exec_of_answerOf ?_ s⟩
  · rw [answerOf_asinInstr, answerOf_atan2Instr, rawValue_arcRootWord, ← rawWord_zero .q32, ← apply_ite (rawWord .q32)]
    rfl
  · rw [answerOf_acosInstr, answerOf_atan2Instr, rawValue_arcRootWord, ← rawWord_zero .q32, ← apply_ite (rawWord .q32)]
    rfl

/-- The operand of the Q16.16 kernel widened to Q32.32 (43_kernel_patterns.md R215). -/
theorem toInt_widened (x : BitVec 32) : (x.signExtend 64 <<< 16).toInt = x.toInt * 2 ^ 16 := by
  have hl := BitVec.le_two_mul_toInt (x := x)
  have hu := BitVec.two_mul_toInt_lt (x := x)
  rw [BitVec.signExtend, ← ofInt_mul_two_pow, toInt_ofInt_eq_wrap]
  exact wrap_eq_self (by decide) (by omega) (by omega)

/-- A Q32.32 answer narrowed to Q16.16: the shift and the low half see no bit that delivery wraps off
(43_kernel_patterns.md R215). -/
theorem lowHalf_narrowed (r : Int) : lowHalf ((rawWord .q32 r).sshiftRight 16) = BitVec.ofInt 32 (r / 2 ^ 16) := by
  have hword : (rawWord .q32 r).toInt = wrap 64 r := toInt_ofInt_eq_wrap 64 r
  have hdvd : (2 ^ 32 : Int) ∣ wrap (48 + 16) r / 2 ^ 16 - r / 2 ^ 16 :=
    (pow_dvd_pow 2 (by decide)).trans (dvd_wrap_div_sub 48 16 r)
  rw [← ofInt_toInt_div_two_pow, lowHalf_ofInt, hword, ← ofInt_wrap (le_refl 32) (r / 2 ^ 16),
    ← wrap_eq_wrap_iff.2 hdvd, ofInt_wrap le_rfl]

/-- The narrowed answer is the result word of the Q16.16 kernel. -/
theorem signExtend_narrowed (r : Int) :
    (lowHalf ((rawWord .q32 r).sshiftRight 16)).signExtend 64 = rawWord .q16 (wrap 32 (shr r 16)) := by
  have hwrap : rawWord .q16 (wrap 32 (shr r 16)) = rawWord .q16 (r / 2 ^ 16) := rawWord_wrap .q16 _
  rw [lowHalf_narrowed, hwrap]
  rfl

/-- Settles O59: the widened operand is exact, and narrowing the delivered answer is narrowing the value. -/
theorem arcFunctionsOfQ16AreComputedInQ32 : Obligations.ArcFunctionsOfQ16AreComputedInQ32 := by
  intro t a s
  simp only [extractLsb'_eq_lowHalf]
  refine ⟨exec_of_answerOf ?_ s, exec_of_answerOf ?_ s⟩
  · rw [answerOf_asinInstr, answerOf_asinInstr, signExtend_narrowed, rawValue_q32, toInt_widened, rawValue_q16,
      opndInt32_eq_toInt, ← rawWord_zero .q16, ← apply_ite (rawWord .q16)]
    rfl
  · rw [answerOf_acosInstr, answerOf_acosInstr, signExtend_narrowed, rawValue_q32, toInt_widened, rawValue_q16,
      opndInt32_eq_toInt, ← rawWord_zero .q16, ← apply_ite (rawWord .q16)]
    rfl

end Sys2Proof.Machine
end

section
/-! Proofs of the statements about the floating-point conversions: the fields of a pattern, the truncation of its
value into a kernel, and the one rounding out of a kernel (43_kernel_patterns.md R196 to R198). -/

namespace Sys2Proof.Machine

/-! ## The fields of a pattern -/

/-- The significand of a finite pattern (43_kernel_patterns.md R196). -/
def patternSig (fmt : FloatFormat) (w : Word) : Nat :=
  w.toNat % 2 ^ fmt.fracBits + if patternExp fmt w = 0 then 0 else 2 ^ fmt.fracBits

/-- The power of two that scales it (43_kernel_patterns.md R196). -/
def patternScale (fmt : FloatFormat) (w : Word) : Int :=
  (max (patternExp fmt w) 1 : Nat) - (fmt.bias : Int) - fmt.fracBits

theorem patternValue_eq (fmt : FloatFormat) (w : Word) : patternValue fmt w =
    (if patternSign fmt w = 1 then -1 else 1) * (patternSig fmt w : ℚ) * 2 ^ patternScale fmt w := rfl

theorem floatExp_opndFloat (fmt : FloatFormat) (a : Word) : floatExp fmt (opndFloat fmt a) = patternExp fmt a := by
  cases fmt <;> simp only [floatExp, opndFloat, opndBits32, opndBits64, bitField_natCast, patternExp, lowHalf,
    BitVec.toNat_setWidth, FloatFormat.expBits, FloatFormat.fracBits]
  omega

theorem floatSign_opndFloat (fmt : FloatFormat) (a : Word) : floatSign fmt (opndFloat fmt a) = patternSign fmt a := by
  cases fmt <;>
    (simp only [floatSign, opndFloat, opndBits32, opndBits64, bitField_natCast, patternSign, lowHalf,
      BitVec.toNat_setWidth, FloatFormat.expBits, FloatFormat.fracBits]; omega)

theorem floatFrac_opndFloat (fmt : FloatFormat) (a : Word) :
    floatFrac fmt (opndFloat fmt a) = (a.toNat % 2 ^ fmt.fracBits : Nat) := by
  cases fmt <;> simp only [floatFrac, opndFloat, opndBits32, opndBits64, bitField_natCast, lowHalf,
    BitVec.toNat_setWidth, FloatFormat.fracBits] <;> omega

theorem floatSig_opndFloat (fmt : FloatFormat) (a : Word) : floatSig fmt (opndFloat fmt a) = patternSig fmt a := by
  rw [floatSig, floatExp_opndFloat, floatFrac_opndFloat, patternSig]
  split <;> simp_all [add_comm]

theorem floatScale_opndFloat (fmt : FloatFormat) (a : Word) :
    floatScale fmt (opndFloat fmt a) = patternScale fmt a := by
  rw [floatScale, floatExp_opndFloat, patternScale]
  split <;> omega

theorem patternSig_lt (fmt : FloatFormat) (w : Word) : patternSig fmt w < 2 ^ (fmt.fracBits + 1) := by
  have h := Nat.mod_lt w.toNat (show 0 < 2 ^ fmt.fracBits by positivity)
  rw [patternSig, pow_succ]
  split <;> omega

/-! ## Into a kernel -/

/-- The value of a pattern in the units of a kernel, truncated, is its shifted significand with its sign. -/
theorem truncRat_patternValue (K : Kernel) (fmt : FloatFormat) (w : Word) :
    truncRat (patternValue fmt w * 2 ^ K.frac) =
      if patternSign fmt w = 1 then -shr (patternSig fmt w) (-(patternScale fmt w + K.frac))
      else shr (patternSig fmt w) (-(patternScale fmt w + K.frac)) := by
  have hmag : truncRat ((patternSig fmt w : ℚ) * 2 ^ patternScale fmt w * 2 ^ K.frac) =
      shr (patternSig fmt w) (-(patternScale fmt w + K.frac)) := by
    rw [truncRat_of_nonneg (by positivity), shr_eq_floor, neg_neg, zpow_add₀ (by norm_num), zpow_natCast, ← mul_assoc]
    rfl
  rw [patternValue_eq]
  split
  · rw [neg_one_mul, neg_mul, neg_mul, truncRat_neg, hmag]
  · rw [one_mul, hmag]

theorem wrap_neg_congr {n : Nat} {u v : Int} (h : wrap n u = wrap n v) : wrap n (-u) = wrap n (-v) := by
  rw [wrap_eq_wrap_iff] at h ⊢
  simpa [sub_eq_add_neg, add_comm] using (dvd_neg.2 h)

/-- The limit on the shift of a significand does not show in a raw value (43_kernel_patterns.md R197). -/
theorem wrap_shr_shiftLimit (K : Kernel) {sig : Int} (h0 : 0 ≤ sig) (h1 : sig < 2 ^ 64) (a : Int) :
    wrap K.width (shr sig (shiftLimit a)) = wrap K.width (shr sig a) := by
  have hwidth : K.width ≤ 64 := by cases K <;> decide
  rw [← toInt_ofInt_eq_wrap, fromFP_shift hwidth h0 h1, toInt_ofInt_eq_wrap]

/-- A finite pattern is converted by truncation of its value; the limit on the shift does not show
(43_kernel_patterns.md R197). -/
theorem fromFP_of_finite (K : Kernel) {fmt : FloatFormat} {a : Word} (h : patternExp fmt a ≠ 2 ^ fmt.expBits - 1) :
    fromFP K fmt (opndFloat fmt a) = wrap K.width (truncRat (patternValue fmt a * 2 ^ K.frac)) := by
  have hfin : ¬ floatExp fmt (opndFloat fmt a) = 2 ^ fmt.expBits - 1 := by
    rw [floatExp_opndFloat]
    cases fmt <;> simp only [FloatFormat.expBits] at h ⊢ <;> omega
  have hlt : (patternSig fmt a : Int) < 2 ^ 64 := by
    have := patternSig_lt fmt a
    cases fmt <;> simp only [FloatFormat.fracBits] at this <;> omega
  have hshift := wrap_shr_shiftLimit K (Int.natCast_nonneg _) hlt (-(patternScale fmt a + K.frac))
  refine (if_neg hfin).trans ?_
  dsimp only
  rw [floatSig_opndFloat, floatScale_opndFloat, floatSign_opndFloat, truncRat_patternValue]
  simp only [Nat.cast_eq_one]
  split
  · exact wrap_neg_congr hshift
  · exact hshift

theorem fromFP_of_not_finite (K : Kernel) {fmt : FloatFormat} {a : Word} (h : patternExp fmt a = 2 ^ fmt.expBits - 1) :
    fromFP K fmt (opndFloat fmt a) = 0 := by
  refine if_pos ?_
  rw [floatExp_opndFloat, h]
  cases fmt <;> rfl

/-- Settles O39: an infinity or a NaN, else `fromFP_of_finite`. -/
theorem fromFloatTruncates : Obligations.FromFloatTruncates := by
  intro K fmt a s
  refine exec_of_answerOf ?_ s
  rw [answerOf_fromfpInstr]
  split
  case isTrue h => rw [fromFP_of_not_finite K h, rawWord_zero]
  case isFalse h => rw [fromFP_of_finite K h, rawWord_wrap]

/-! ## Rounding to even -/

theorem roundEven_intCast (n : Int) : roundEven n = n := by
  rw [roundEven, Int.floor_intCast, sub_self, if_pos (by norm_num)]

/-- The rest of a division by `2^(k+1)`, against half of it, decides the rounding (43_kernel_patterns.md R198). -/
theorem roundEven_div_two_pow (m k : Nat) : roundEven ((m : ℚ) / 2 ^ (k + 1)) =
    (if 2 ^ k < m % 2 ^ (k + 1) ∨ (m % 2 ^ (k + 1) = 2 ^ k ∧ m / 2 ^ (k + 1) % 2 = 1)
    then m / 2 ^ (k + 1) + 1 else m / 2 ^ (k + 1) : Nat) := by
  have hpow : (0 : ℚ) < 2 ^ k := by positivity
  have hfloor : ⌊(m : ℚ) / 2 ^ (k + 1)⌋ = (m / 2 ^ (k + 1) : Nat) := by
    have h := floor_div_two_pow m (k + 1)
    push_cast at h ⊢
    exact h
  have hrest : (m : ℚ) / 2 ^ (k + 1) - (m / 2 ^ (k + 1) : Nat) = (m % 2 ^ (k + 1) : Nat) / (2 ^ k * 2) := by
    have hdm : (m : ℚ) = 2 ^ (k + 1) * (m / 2 ^ (k + 1) : Nat) + (m % 2 ^ (k + 1) : Nat) := by
      exact_mod_cast (Nat.div_add_mod m (2 ^ (k + 1))).symm
    rw [← pow_succ, sub_eq_iff_eq_add, div_eq_iff (by positivity), add_mul, div_mul_cancel₀ _ (by positivity)]
    linarith
  have hlt : (m : ℚ) / 2 ^ (k + 1) - (m / 2 ^ (k + 1) : Nat) < 1 / 2 ↔ m % 2 ^ (k + 1) < 2 ^ k := by
    rw [hrest, div_lt_div_iff₀ (by positivity) (by norm_num), one_mul, mul_lt_mul_iff_left₀ (by norm_num)]
    exact_mod_cast Iff.rfl
  have hgt : 1 / 2 < (m : ℚ) / 2 ^ (k + 1) - (m / 2 ^ (k + 1) : Nat) ↔ 2 ^ k < m % 2 ^ (k + 1) := by
    rw [hrest, div_lt_div_iff₀ (by norm_num) (by positivity), one_mul, mul_lt_mul_iff_left₀ (by norm_num)]
    exact_mod_cast Iff.rfl
  simp only [roundEven, hfloor, Int.cast_natCast, hlt, hgt]
  generalize m / 2 ^ (k + 1) = q
  generalize m % 2 ^ (k + 1) = r
  split_ifs <;> omega

/-- The rounded significand of the model is the magnitude, scaled to `p + 1` bits, rounded to even
(43_kernel_patterns.md R198). -/
theorem roundEven_scaled (p m msb : Nat) :
    roundEven ((m : ℚ) * 2 ^ (-((msb : Int) - p))) = roundSignificand p m msb := by
  unfold roundSignificand
  split
  case isTrue h =>
    have hexp : -((msb : Int) - p) = (p - msb : Nat) := by omega
    have hint : (m : ℚ) * 2 ^ (-((msb : Int) - p)) = ((m * 2 ^ (p - msb) : Nat) : Int) := by
      rw [hexp, zpow_natCast]
      push_cast
      rfl
    rw [hint, roundEven_intCast]
  case isFalse h =>
    obtain ⟨k, rfl⟩ : ∃ k, msb = p + (k + 1) := ⟨msb - p - 1, by omega⟩
    have hexp : -(((p + (k + 1) : Nat) : Int) - p) = -((k + 1 : Nat) : Int) := by push_cast; ring
    rw [hexp, zpow_neg, zpow_natCast, ← div_eq_mul_inv, roundEven_div_two_pow, Nat.add_sub_cancel_left]
    rfl

/-! ## Out of a kernel -/

theorem two_pow_le_roundSignificand (p : Nat) {m : Nat} (hm : m ≠ 0) : 2 ^ p ≤ roundSignificand p m m.log2 := by
  have hlow : 2 ^ m.log2 ≤ m := Nat.log2_self_le hm
  unfold roundSignificand
  split
  case isTrue h =>
    calc 2 ^ p = 2 ^ m.log2 * 2 ^ (p - m.log2) := by rw [← pow_add]; congr 1; omega
      _ ≤ m * 2 ^ (p - m.log2) := Nat.mul_le_mul_right _ hlow
  case isFalse h =>
    have hq : 2 ^ p ≤ m / 2 ^ (m.log2 - p) := by
      rw [Nat.le_div_iff_mul_le (by positivity), ← pow_add]
      exact hlow.trans_eq' (by congr 1; omega)
    dsimp only
    split <;> omega

/-- The pattern with sign `s`, exponent field `e` and fraction field `f` (43_kernel_patterns.md R196). -/
def packedPattern (fmt : FloatFormat) (s e f : Nat) : Nat :=
  s * 2 ^ (fmt.expBits + fmt.fracBits) + e * 2 ^ fmt.fracBits + f

/-- The fields of a pattern joined by shifts are those of the sum. -/
theorem joined_eq_packedPattern (fmt : FloatFormat) (s : Nat) {e f : Nat} (he : e < 2 ^ fmt.expBits)
    (hf : f < 2 ^ fmt.fracBits) :
    (s <<< (fmt.expBits + fmt.fracBits)) ||| (e <<< fmt.fracBits) ||| f = packedPattern fmt s e f := by
  have hlow : e <<< fmt.fracBits ||| f = e * 2 ^ fmt.fracBits + f := by
    rw [← Nat.shiftLeft_add_eq_or_of_lt hf, Nat.shiftLeft_eq]
  have hlt : e * 2 ^ fmt.fracBits + f < 2 ^ (fmt.expBits + fmt.fracBits) := by
    calc e * 2 ^ fmt.fracBits + f < (e + 1) * 2 ^ fmt.fracBits := by rw [add_mul, one_mul]; omega
      _ ≤ 2 ^ fmt.expBits * 2 ^ fmt.fracBits := Nat.mul_le_mul_right _ he
      _ = 2 ^ (fmt.expBits + fmt.fracBits) := (pow_add ..).symm
  rw [Nat.or_assoc, hlow, ← Nat.shiftLeft_add_eq_or_of_lt hlt, Nat.shiftLeft_eq, packedPattern, add_assoc]

/-- The fields of a pattern are read back from its word. -/
theorem packedPattern_fields (fmt : FloatFormat) {s e f : Nat} (hs : s < 2) (he : e < 2 ^ fmt.expBits)
    (hf : f < 2 ^ fmt.fracBits) :
    let w := resBits (packedPattern fmt s e f)
    w.toNat < 2 ^ (1 + fmt.expBits + fmt.fracBits) ∧ patternSign fmt w = s ∧ patternExp fmt w = e ∧
      w.toNat % 2 ^ fmt.fracBits = f := by
  have hword : (resBits (packedPattern fmt s e f)).toNat = packedPattern fmt s e f := by
    rw [resBits, BitVec.toNat_ofNat, Nat.mod_eq_of_lt]
    cases fmt <;> simp only [packedPattern, FloatFormat.expBits, FloatFormat.fracBits] at he hf ⊢ <;> omega
  dsimp only
  rw [patternSign, patternExp, hword]
  cases fmt <;> simp only [packedPattern, FloatFormat.expBits, FloatFormat.fracBits] at he hf ⊢ <;>
    refine ⟨?_, ?_, ?_, ?_⟩ <;> omega

/-- The value of a pattern with an exponent field other than 0. -/
theorem patternValue_packedPattern (fmt : FloatFormat) {s e f : Nat} (hs : s < 2) (he0 : 0 < e)
    (he : e < 2 ^ fmt.expBits) (hf : f < 2 ^ fmt.fracBits) :
    patternValue fmt (resBits (packedPattern fmt s e f)) =
      (if s = 1 then -1 else 1) * ((2 ^ fmt.fracBits + f : Nat) : ℚ) * 2 ^ ((e : Int) - fmt.bias - fmt.fracBits) := by
  obtain ⟨-, hsign, hexp, hfrac⟩ := packedPattern_fields fmt hs he hf
  rw [patternValue_eq, patternSig, patternScale, hsign, hexp, hfrac, if_neg he0.ne', max_eq_left he0, add_comm f]

/-- The exponents of raw values, with a carry of the rounding, are those of normal values in both formats. -/
theorem biasedExponent_normal (K : Kernel) (fmt : FloatFormat) {i : Int} (hl : -(K.frac : Int) ≤ i)
    (hu : i ≤ 64 - K.frac) : 0 < i + fmt.bias ∧ i + fmt.bias < 2 ^ fmt.expBits - 1 := by
  cases K <;> cases fmt <;> simp only [Kernel.frac, FloatFormat.bias, FloatFormat.expBits] at hl hu ⊢ <;> omega

/-- The significand after a carry out of `p + 1` bits is absorbed (43_kernel_patterns.md R198). -/
def carriedSig (p r : Nat) : Nat := if r = 2 ^ (p + 1) then 2 ^ p else r

/-- The exponent after a carry is absorbed (43_kernel_patterns.md R198). -/
def carriedExp (p r : Nat) (i : Int) : Int := if r = 2 ^ (p + 1) then i + 1 else i

theorem carriedExp_range (p r : Nat) (i : Int) : i ≤ carriedExp p r i ∧ carriedExp p r i ≤ i + 1 := by
  unfold carriedExp
  split <;> omega

theorem carriedSig_range {p r : Nat} (hlow : 2 ^ p ≤ r) (hhigh : r ≤ 2 ^ (p + 1)) :
    2 ^ p ≤ carriedSig p r ∧ carriedSig p r < 2 ^ p + 2 ^ p := by
  have hpos : 0 < 2 ^ p := by positivity
  rw [pow_succ] at hhigh
  unfold carriedSig
  rw [pow_succ]
  split <;> omega

/-- A significand that carried is halved and its exponent raised; the value stays. -/
theorem carried_value (p r : Nat) (i : Int) :
    (carriedSig p r : ℚ) * 2 ^ (carriedExp p r i - p) = r * 2 ^ (i - p) := by
  unfold carriedSig carriedExp
  split
  case isTrue h =>
    rw [h, add_sub_right_comm, zpow_add_one₀ (by norm_num)]
    push_cast
    ring
  case isFalse => rfl

/-- The fields of the pattern of a raw value other than 0 (43_kernel_patterns.md R198). -/
theorem toFP_of_ne_zero (K : Kernel) (fmt : FloatFormat) {x : Int} (h0 : x ≠ 0) :
    let p := fmt.fracBits
    let r := roundSignificand p x.natAbs x.natAbs.log2
    toFP K fmt x = ((if x < 0 then 1 else 0) <<< (fmt.expBits + p)) |||
      ((carriedExp p r ((x.natAbs.log2 : Int) - K.frac) + fmt.bias).toNat <<< p) ||| (carriedSig p r - 2 ^ p) :=
  if_neg h0

/-- The pattern of a raw value other than 0 has its sign, the exponent field of a normal value, and the rounded
significand for its value (43_kernel_patterns.md R198). -/
theorem toFP_eq_packedPattern (K : Kernel) (fmt : FloatFormat) {x : Int} (h0 : x ≠ 0) (hx : x.natAbs < 2 ^ 64) :
    ∃ e f : Nat, toFP K fmt x = packedPattern fmt (if x < 0 then 1 else 0) e f ∧
      0 < e ∧ e < 2 ^ fmt.expBits - 1 ∧ f < 2 ^ fmt.fracBits ∧
      ((2 ^ fmt.fracBits + f : Nat) : ℚ) * 2 ^ ((e : Int) - fmt.bias - fmt.fracBits) =
        roundSignificand fmt.fracBits x.natAbs x.natAbs.log2 *
          2 ^ ((x.natAbs.log2 : Int) - K.frac - fmt.fracBits) := by
  have hm : x.natAbs ≠ 0 := Int.natAbs_ne_zero.2 h0
  have hmsb : x.natAbs.log2 < 64 := (Nat.log2_lt hm).2 hx
  obtain ⟨hlow, hhigh⟩ := carriedSig_range (two_pow_le_roundSignificand fmt.fracBits hm)
    (roundSignificand_le fmt.fracBits x.natAbs)
  rw [toFP_of_ne_zero K fmt h0]
  generalize roundSignificand fmt.fracBits x.natAbs x.natAbs.log2 = r at hlow hhigh ⊢
  obtain ⟨hel, heu⟩ := carriedExp_range fmt.fracBits r ((x.natAbs.log2 : Int) - K.frac)
  obtain ⟨hpos, hlt⟩ := biasedExponent_normal K fmt (by omega) (heu.trans (by omega))
  obtain ⟨e, he⟩ := Int.eq_ofNat_of_zero_le hpos.le
  have hexp : e < 2 ^ fmt.expBits - 1 := by
    cases fmt <;> simp only [FloatFormat.expBits] at hlt ⊢ <;> omega
  have hfrac : carriedSig fmt.fracBits r - 2 ^ fmt.fracBits < 2 ^ fmt.fracBits := by omega
  refine ⟨e, carriedSig fmt.fracBits r - 2 ^ fmt.fracBits, ?_, by omega, hexp, hfrac, ?_⟩
  · rw [he, Int.toNat_natCast]
    exact joined_eq_packedPattern fmt _ (by omega) hfrac
  · rw [Nat.add_sub_cancel' hlow, ← he, add_sub_cancel_right, carried_value]

/-- The value of the pattern of a raw value: its magnitude rounded to even at `p + 1` bits, with its sign. -/
theorem patternValue_toFP (K : Kernel) (fmt : FloatFormat) {x : Int} (h0 : x ≠ 0) (hx : x.natAbs < 2 ^ 64) :
    patternValue fmt (resBits (toFP K fmt x)) = (if x < 0 then -1 else 1) *
      roundEven ((x.natAbs : ℚ) * 2 ^ (-((x.natAbs.log2 : Int) - fmt.fracBits))) *
      2 ^ ((x.natAbs.log2 : Int) - fmt.fracBits - K.frac) := by
  obtain ⟨e, f, hpattern, he0, he1, hf, hvalue⟩ := toFP_eq_packedPattern K fmt h0 hx
  have hs : (if x < 0 then 1 else 0) < 2 := by split <;> decide
  have hsign : (if x < 0 then 1 else 0) = 1 ↔ x < 0 := by split <;> simp_all
  rw [hpattern, patternValue_packedPattern fmt hs he0 (by omega) hf, mul_assoc, hvalue, roundEven_scaled,
    sub_right_comm]
  simp only [hsign, Int.cast_natCast, mul_assoc]

theorem rawValue_natAbs_lt_two_pow_64 (K : Kernel) (a : Word) : (rawValue K a).natAbs < 2 ^ 64 := by
  rw [← opnd_eq_rawValue]
  exact opnd_natAbs_lt K a

/-- Settles O40: the fields of the packed pattern, and its value. -/
theorem toFloatRoundsToNearestEven : Obligations.ToFloatRoundsToNearestEven := by
  intro K fmt a s
  refine ⟨_, exec_of_answerOf (answerOf_tofpInstr K fmt a) s, ?_⟩
  have hx := rawValue_natAbs_lt_two_pow_64 K a
  generalize rawValue K a = x at hx ⊢
  dsimp only
  refine ⟨fun h => by rw [h]; rfl, fun h0 => ?_⟩
  obtain ⟨e, f, hpattern, he0, he1, hf, -⟩ := toFP_eq_packedPattern K fmt h0 hx
  have hs : (if x < 0 then 1 else 0) < 2 := by split <;> decide
  obtain ⟨hlt, hsign, hexp, -⟩ := packedPattern_fields fmt hs (by omega : e < 2 ^ fmt.expBits) hf
  rw [← hpattern] at hlt hsign hexp
  exact ⟨hlt, hsign, by rwa [hexp], by rwa [hexp], patternValue_toFP K fmt h0 hx⟩

/-! ## There and back -/

/-- A magnitude that ends in as many zero bits as it has above `p + 1` is not rounded. -/
theorem roundEven_of_dvd {p m : Nat} (h : 2 ^ (m.log2 - p) ∣ m) :
    (roundEven ((m : ℚ) * 2 ^ (-((m.log2 : Int) - p))) : ℚ) = m * 2 ^ (-((m.log2 : Int) - p)) := by
  obtain ⟨z, hz⟩ : ∃ z : Int, (m : ℚ) * 2 ^ (-((m.log2 : Int) - p)) = z := by
    rcases le_total m.log2 p with hle | hle
    · have hexp : -((m.log2 : Int) - p) = (p - m.log2 : Nat) := by omega
      exact ⟨(m * 2 ^ (p - m.log2) : Nat), by rw [hexp, zpow_natCast]; push_cast; rfl⟩
    · obtain ⟨n, hn⟩ := h
      have hexp : -((m.log2 : Int) - p) = -((m.log2 - p : Nat) : Int) := by omega
      have hm : (m : ℚ) = 2 ^ (m.log2 - p) * n := by exact_mod_cast hn
      refine ⟨n, ?_⟩
      rw [hexp, zpow_neg, zpow_natCast, ← div_eq_mul_inv, div_eq_iff (by positivity), mul_comm, Int.cast_natCast]
      exact hm
  rw [hz, roundEven_intCast]

/-- A significand of `p + 1` bits, shifted either way, keeps the format's precision. -/
theorem two_pow_dvd_shr {p sig : Nat} (h : sig < 2 ^ (p + 1)) (e : Int) :
    2 ^ ((shr sig e).natAbs.log2 - p) ∣ (shr sig e).natAbs := by
  rcases eq_or_ne (shr sig e).natAbs 0 with h0 | h0
  · rw [h0]
    exact dvd_zero _
  cases e with
  | ofNat k =>
    have hshr : (shr sig (Int.ofNat k)).natAbs = sig / 2 ^ k := rfl
    rw [hshr] at h0 ⊢
    have hlog : (sig / 2 ^ k).log2 < p + 1 := (Nat.log2_lt h0).2 ((Nat.div_le_self _ _).trans_lt h)
    rw [Nat.sub_eq_zero_of_le (by omega), pow_zero]
    exact one_dvd _
  | negSucc k =>
    have hshr : (shr sig (Int.negSucc k)).natAbs = sig * 2 ^ (k + 1) := by
      rw [shr, Int.natAbs_mul, Int.natAbs_natCast, Int.natAbs_pow]
      rfl
    rw [hshr] at h0 ⊢
    have hlog : (sig * 2 ^ (k + 1)).log2 < p + 1 + (k + 1) :=
      (Nat.log2_lt h0).2 (by rw [pow_add 2 (p + 1)]; exact Nat.mul_lt_mul_of_pos_right h (by positivity))
    exact (pow_dvd_pow 2 (by omega)).mul_left sig

/-- A pattern truncated into a kernel keeps its format's precision. -/
theorem two_pow_dvd_truncated (K : Kernel) (fmt : FloatFormat) (w : Word) {r : Int}
    (hr : r = truncRat (patternValue fmt w * 2 ^ K.frac)) : 2 ^ (r.natAbs.log2 - fmt.fracBits) ∣ r.natAbs := by
  have hdvd := two_pow_dvd_shr (patternSig_lt fmt w) (-(patternScale fmt w + K.frac))
  rw [truncRat_patternValue] at hr
  split at hr <;> subst hr
  · rwa [Int.natAbs_neg]
  · exact hdvd

theorem patternValue_zero (fmt : FloatFormat) : patternValue fmt 0 = 0 := by
  have hsig : patternSig fmt 0 = 0 := by cases fmt <;> rfl
  rw [patternValue_eq, hsig, Nat.cast_zero, mul_zero, zero_mul]

/-- A raw value that the format's precision holds leaves the kernel exactly (43_kernel_patterns.md R198). -/
theorem patternValue_toFP_of_dvd (K : Kernel) (fmt : FloatFormat) {x : Int} (hx : x.natAbs < 2 ^ 64)
    (h : 2 ^ (x.natAbs.log2 - fmt.fracBits) ∣ x.natAbs) :
    patternValue fmt (resBits (toFP K fmt x)) = (x : ℚ) / 2 ^ K.frac := by
  rcases eq_or_ne x 0 with rfl | h0
  · rw [Int.cast_zero, zero_div]
    exact patternValue_zero fmt
  · have hsign : (if x < 0 then -1 else 1) * (x.natAbs : ℚ) = x := by
      rw [Nat.cast_natAbs, Int.cast_abs]
      split
      case isTrue h => rw [abs_of_neg (by exact_mod_cast h), neg_one_mul, neg_neg]
      case isFalse h => rw [abs_of_nonneg (by exact_mod_cast not_lt.1 h), one_mul]
    have hexp (i : Int) : (2 : ℚ) ^ (-i) * 2 ^ (i - K.frac) = (2 ^ K.frac)⁻¹ := by
      rw [← zpow_add₀ (by norm_num), neg_add_eq_sub, sub_sub_cancel_left, zpow_neg, zpow_natCast]
    rw [patternValue_toFP K fmt h0 hx, roundEven_of_dvd h, ← mul_assoc, hsign, mul_assoc, hexp, div_eq_mul_inv]

/-- Settles O41: the truncated value is in range, so nothing wraps on the way in, and has no more significant bits
than the format holds, so nothing is rounded on the way out. -/
theorem floatRoundTrip : Obligations.FloatRoundTrip := by
  intro K fmt a s hfin hrange
  have hscaled : |patternValue fmt a * 2 ^ K.frac| < 2 ^ (K.width - 1) := by
    have hpow : (0 : ℚ) < 2 ^ K.frac := by positivity
    have hsplit : K.width - 1 = K.width - 1 - K.frac + K.frac := by cases K <;> rfl
    rw [abs_mul, abs_of_pos hpow, hsplit, pow_add]
    exact mul_lt_mul_of_pos_right hrange hpow
  have hin : rawValue K (answerOf (fromfpInstr K fmt a)) = truncRat (patternValue fmt a * 2 ^ K.frac) := by
    rw [answerOf_fromfpInstr, fromFP_of_finite K hfin, rawWord_wrap, rawValue_rawWord,
      wrap_eq_self_of_abs_lt ((abs_truncRat_le _).trans_lt hscaled)]
  have hlt : (rawValue K (answerOf (fromfpInstr K fmt a))).natAbs < 2 ^ 64 := rawValue_natAbs_lt_two_pow_64 K _
  refine ⟨_, exec_of_answerOf (answerOf_tofpInstr K fmt _) s, ?_⟩
  rw [patternValue_toFP_of_dvd K fmt hlt (two_pow_dvd_truncated K fmt a hin), hin]

end Sys2Proof.Machine
end

section
/-! Proof of the statement about exceptions: no step faults or is refused, and a step turns the command it takes into one
response (60_exceptions.md R460, R466). -/

namespace Sys2Proof.Machine

/-- No step faults or is refused (60_exceptions.md R460, R466). -/
theorem exists_step_eq_next (s : State) : ∃ t : State, step s = .next t := by
  cases hs : s.inFlight with
  | nil => exact ⟨s, step_idle hs⟩
  | cons cmd rest => exact ⟨_, (step_cons hs).trans (respondTo_eq_answered ..)⟩

/-- A step takes no command but the oldest one (10_state.md R22). -/
theorem step_inFlight {s t : State} (h : step s = .next t) : t.inFlight = s.inFlight.tail := by
  obtain ⟨hs, rfl⟩ | ⟨cmd, rest, hs, rfl⟩ := step_cases h
  · rw [hs, List.tail_nil]
  · rw [hs, State.answered, List.tail_cons]

/-- A step drops no pending response and overtakes none (10_state.md R22). -/
theorem step_responses_prefix {s t : State} (h : step s = .next t) : s.responses <+: t.responses := by
  obtain ⟨-, rfl⟩ | ⟨cmd, rest, -, rfl⟩ := step_cases h
  · exact List.prefix_rfl
  · exact List.prefix_append ..

/-- The command a step takes and the response it adds balance. -/
theorem step_length_add {s t : State} (h : step s = .next t) :
    t.inFlight.length + t.responses.length = s.inFlight.length + s.responses.length := by
  obtain ⟨-, rfl⟩ | ⟨cmd, rest, hs, rfl⟩ := step_cases h
  · rfl
  · simp only [hs, State.answered, List.length_append, List.length_cons, List.length_nil]
    omega

/-- Settles O11: every step answers a next state, and `step_cases` says which one. -/
theorem noStepStops : Obligations.NoStepStops := by
  intro s
  obtain ⟨t, ht⟩ := exists_step_eq_next s
  exact ⟨t, ht, step_inFlight ht, step_responses_prefix ht, step_length_add ht⟩

end Sys2Proof.Machine
end

section
/-! Proofs of the statements about reset, runs of commands and operand aliasing: a run turns the commands in flight into
their answers one by one, and on equal operands each kernel function is its operand or a constant
(70_reset_and_hazards.md R490, R493, R494). -/

namespace Sys2Proof.Machine

/-! ## Reset and issue -/

/-- A command the host issues joins the ledger behind every answer already fixed (10_state.md R22). -/
theorem ledger_issue (s : State) (cmd : Command) : ledger (s.issue cmd) = ledger s ++ [soloAnswer cmd] := by
  simp only [ledger, State.issue_inFlight, State.issue_responses, List.map_append, List.map_cons, List.map_nil,
    List.append_assoc]

/-- Settles O15: the reset event puts both lists at their reset value. -/
theorem resetEmptiesTheUnit : Obligations.ResetEmptiesTheUnit :=
  ⟨⟨State.reset_inFlight, State.reset_responses⟩, fun s =>
    State.eq_of_fields (State.resetEvent_inFlight s) (State.resetEvent_responses s)⟩

/-- Settles O14: nothing is pending or in flight at reset, and `ledger_issue`. -/
theorem ledgerAtResetAndIssue : Obligations.LedgerAtResetAndIssue := by
  refine ⟨?_, ledger_issue⟩
  rw [LedgerIs, ledger, State.reset_inFlight, State.reset_responses, List.map_nil, List.append_nil]

/-! ## Runs -/

theorem run_zero (s : State) : Host.Core.run Sys2Proof.core 0 s = .next s := rfl

/-- A run whose first step answers a next state goes on from there. -/
theorem run_succ_of_step {s t : State} (h : step s = .next t) (k : Nat) :
    Host.Core.run Sys2Proof.core (k + 1) s = Host.Core.run Sys2Proof.core k t := by
  have hcore : Sys2Proof.core.step s = .next t := h
  simp only [Host.Core.run, hcore]

/-- The step of a state whose oldest command is `cmd` moves the answer of `cmd` behind the pending responses. -/
theorem step_mk_cons (cmd : Command) (rest : List Command) (rs : List Word) :
    step ⟨cmd :: rest, rs⟩ = .next ⟨rest, rs ++ [soloAnswer cmd]⟩ := by
  rw [step_cons rfl, respondTo_eq_answered]
  rfl

/-- Settles O12, by induction on the commands: the first step answers the first one, and the run of the others starts
with that answer among the pending responses. -/
theorem runAnswersInOrder : Obligations.RunAnswersInOrder := by
  intro cmds rest rs
  induction cmds generalizing rs with
  | nil => rw [List.length_nil, List.nil_append, List.map_nil, List.append_nil, run_zero]
  | cons cmd cmds ih =>
    rw [List.length_cons, List.cons_append, run_succ_of_step (step_mk_cons cmd (cmds ++ rest) rs), ih, List.map_cons,
      List.append_assoc, List.singleton_append]

/-! ## What `min`, `max` and `clamp` of a kernel answer -/

theorem answerOf_minInstr (K : Kernel) (a b : Word) :
    answerOf (minInstr K a b) = rawWord K (minRaw (rawValue K a) (rawValue K b)) := by
  rw [← opnd_eq_rawValue, ← opnd_eq_rawValue]
  cases K <;> rfl

theorem answerOf_maxInstr (K : Kernel) (a b : Word) :
    answerOf (maxInstr K a b) = rawWord K (maxRaw (rawValue K a) (rawValue K b)) := by
  rw [← opnd_eq_rawValue, ← opnd_eq_rawValue]
  cases K <;> rfl

theorem answerOf_clampInstr (K : Kernel) (a b c : Word) :
    answerOf (clampInstr K a b c) = rawWord K (clampRaw (rawValue K a) (rawValue K b) (rawValue K c)) := by
  rw [← opnd_eq_rawValue, ← opnd_eq_rawValue, ← opnd_eq_rawValue]
  cases K <;> rfl

/-! ## Equal operands -/

theorem minRaw_self (a : Int) : minRaw a a = a := ite_self a

theorem maxRaw_self (a : Int) : maxRaw a a = a := ite_self a

/-- Neither bound of an interval that is one point moves that point (43_kernel_patterns.md R219). -/
theorem clampRaw_self (a : Int) : clampRaw a a a = a := by rw [clampRaw, ite_self, ite_self]

theorem sub_self_eq_zero (K : Kernel) (a : Int) : sub K a a = 0 := by
  rw [sub, Int.sub_self, wrap_zero]

theorem mod_self_eq_zero (K : Kernel) (a : Int) : mod K a a = 0 := by
  rw [mod_eq, Int.tmod_self, wrap_zero, ite_self]

/-- Off the sentinels the exact quotient is 1.0, which neither saturates nor loses a fraction
(43_kernel_patterns.md R195). -/
theorem divPrecise_self (K : Kernel) (a : Int) :
    divPrecise K a a = if a = 0 ∨ a = K.minValue then 0 else K.one := by
  rw [divPrecise_eq]
  split
  case isTrue => rfl
  case isFalse h =>
    have ha : (a : ℚ) ≠ 0 := by exact_mod_cast (not_or.1 h).1
    have hquot : (a : ℚ) * 2 ^ K.frac / a = (K.one : ℚ) := by
      rw [mul_div_cancel_left₀ _ ha, Kernel.one]
      push_cast
      rfl
    have hfits : ¬ (2 : ℚ) ^ K.width ≤ |(K.one : ℚ)| := by
      rw [Kernel.one, not_le]
      cases K <;> norm_num [Kernel.width, Kernel.frac]
    have htrunc : truncRat (K.one : ℚ) = K.one := by
      rw [truncRat, Int.floor_intCast, Int.ceil_intCast, ite_self]
    rw [hquot, if_neg hfits, htrunc, wrap_one]

/-- Settles O36: the raw value of the one word is read for every operand, and the kernel's function is known there. -/
theorem aliasedOperands : Obligations.AliasedOperands := by
  intro K x s
  refine ⟨exec_of_answerOf ?min s, exec_of_answerOf ?max s, exec_of_answerOf ?clamp s, exec_of_answerOf ?sub s,
    exec_of_answerOf ?mod s, exec_of_answerOf ?divprecise s⟩
  case min => rw [answerOf_minInstr, minRaw_self]
  case max => rw [answerOf_maxInstr, maxRaw_self]
  case clamp => rw [answerOf_clampInstr, clampRaw_self]
  case sub => rw [answerOf_subInstr, sub_self_eq_zero, rawWord_zero]
  case mod => rw [answerOf_modInstr, mod_self_eq_zero, rawWord_zero]
  case divprecise =>
    rw [answerOf_divpreciseInstr, divPrecise_self, apply_ite (rawWord K), rawWord_zero]
    rfl

end Sys2Proof.Machine
end

section
/-! Proof of the statement about the idle unit: a step without a command in flight changes nothing, the model's choice
(notes/assumptions/2.md). -/

namespace Sys2Proof.Machine

/-- Settles O2: with nothing to take, the step has only the idle case of `step_idle`. -/
theorem idleStepChangesNothing : Obligations.IdleStepChangesNothing := by
  intro s hidle
  exact step_idle hidle

end Sys2Proof.Machine
end
